-- ==== Sys2Proof/Word.lean ====
section
/-! DEFINITION. The word types of the CJS-8 model: the widths that the manual treats as bits, and the index types of
the fixed collections (lanes, twin pairs, digest contexts, trip points). -/

namespace Sys2Proof

/-- One byte of host memory, or of a completion's data. -/
abbrev Byte := BitVec 8
/-- A 32-bit word: a register, a check value, a cumulative position, a record field (section 1.6). -/
abbrev Word := BitVec 32
/-- A 64-bit host address (section 1.4). -/
abbrev Addr := BitVec 64
/-- One of the eight lanes, 0 to 7. -/
abbrev LaneId := Fin 8
/-- One of the four twin pairs; pair p holds the lanes 2p and 2p+1. -/
abbrev PairId := Fin 4
/-- One of the four digest contexts. -/
abbrev CtxId := Fin 4
/-- One of the four trip points. -/
abbrev TripId := Fin 4

end Sys2Proof
end

