-- ==== Sys2Proof/Syntax.lean ====
section
/-! DEFINITION. The commands of the CJS-8: one constructor for each row of spec/opcode_table.json, in the table's
order. The table gives the rows no operand fields; the operands here are what the rule of each row says the event
brings with it: the register value written, the lane concerned, the data that arrives. A read completion names the
request it answers by `tag` (log entry 4). -/

namespace Sys2Proof

/-- The two registers whose writes are ignored (R163). -/
inductive ReadOnlyReg where
  | partId
  | status
  deriving DecidableEq, Repr

/-- The steps of the part: spec/opcode_table.json, one constructor a row. -/
inductive Instr where
  /-- HARD_RESET (R165). -/
  | hardReset
  /-- SOFT_RESET (R164): CONTROL is written with SOFT_RESET set. -/
  | softReset
  /-- ENABLE_SET (R159, R160): a CONTROL write takes ENABLE from 0 to 1. -/
  | enableSet
  /-- ENABLE_CLEAR (R160): a CONTROL write takes ENABLE from 1 to 0. -/
  | enableClear
  /-- QUIESCE_SET (R161). -/
  | quiesceSet
  /-- QUIESCE_CLEAR (R161). -/
  | quiesceClear
  /-- TRIP_RELOAD (R149): CONTROL is written with TRIP_RELOAD set. -/
  | tripReload
  /-- TRIP_RELOAD_LATCHED_START (R149). -/
  | tripReloadLatchedStart
  /-- DIR_BASE_WRITE (R162): `high` says whether DIR_BASE_HI or DIR_BASE_LO is written. -/
  | dirBaseWrite (high : Bool) (value : Word)
  /-- WAKE (R41): a write to the WAKE register. -/
  | wake (value : Word)
  /-- LATCHED_WAKE_SERVE (R41): the lane serves its latched wake. -/
  | latchedWakeServe (lane : LaneId)
  /-- RECALL (R52): a write to the RECALL register. -/
  | recallWrite (value : Word)
  /-- ATTENTION_WRITE (R157). -/
  | attentionWrite (value : Word)
  /-- ATTENTION_MASK_WRITE (R158). -/
  | attentionMaskWrite (value : Word)
  /-- REGISTER_WRITE_IGNORED (R163). -/
  | registerWriteIgnored (reg : ReadOnlyReg) (value : Word)
  /-- DIRECTORY_HEADER_READ_COMPLETE (R159): the 64 bytes of the directory header arrive. -/
  | directoryHeaderReadComplete (tag : Nat) (data : List Byte)
  /-- DIRECTORY_HEADER_READ_FAIL (R159). -/
  | directoryHeaderReadFail (tag : Nat)
  /-- SEQUENCE_UNCHANGED (R39): a lane entry arrives whose COMMAND_SEQ is the last acted one. -/
  | sequenceUnchanged (tag : Nat)
  /-- OPEN (R42): a lane entry arrives with COMMAND 1. -/
  | openReel (tag : Nat) (seq : Word) (sheet : Addr)
  /-- PAUSE (R44): a lane entry arrives with COMMAND 2. -/
  | pauseReel (tag : Nat) (seq : Word)
  /-- RESUME (R45): a lane entry arrives with COMMAND 3. -/
  | resumeReel (tag : Nat) (seq : Word)
  /-- CLOSE (R46): a lane entry arrives with COMMAND 4. -/
  | closeReel (tag : Nat) (seq : Word)
  /-- ABORT (R48, R49): a lane entry arrives with COMMAND 5. -/
  | abortReel (tag : Nat) (seq : Word)
  /-- UNKNOWN_COMMAND (R40): a lane entry arrives with a COMMAND outside 1 to 5. -/
  | unknownCommand (tag : Nat) (seq : Word) (code : Word)
  /-- LANE_ENTRY_READ_FAIL (R38). -/
  | laneEntryReadFail (tag : Nat)
  /-- SHEET_HEADER_READ_COMPLETE (R19): the 64 bytes of the reel sheet header arrive. -/
  | sheetHeaderReadComplete (tag : Nat) (data : List Byte)
  /-- SHEET_HEADER_READ_FAIL (R19). -/
  | sheetHeaderReadFail (tag : Nat)
  /-- FILL_READ_COMPLETE (R28). -/
  | fillReadComplete (tag : Nat) (value : Word)
  /-- FILL_READ_FAIL (R27). -/
  | fillReadFail (tag : Nat)
  /-- TAKE_BEGIN (R29). -/
  | takeBegin (lane : LaneId)
  /-- DESCRIPTOR_READ_COMPLETE (R29): the 96 bytes of a frame descriptor arrive. -/
  | descriptorReadComplete (tag : Nat) (data : List Byte)
  /-- DESCRIPTOR_READ_FAIL (R29). -/
  | descriptorReadFail (tag : Nat)
  /-- RESERVATION_GRANT (R33): the lane grants its next reservation, in window order. -/
  | reservationGrant (lane : LaneId)
  /-- REF_HEADER_ARRIVAL (R8): the 16 bytes of a reference list header arrive. -/
  | refHeaderArrival (tag : Nat) (data : List Byte)
  /-- REF_BODY_COMPLETE (R7): the data of a reference list body request arrives. -/
  | refBodyComplete (tag : Nat) (data : List Byte)
  /-- REF_LIST_READ_FAIL (R9). -/
  | refListReadFail (tag : Nat)
  /-- PACE_UNDERFLOW (R59): the tick that finds the lane's pace counter at 0. -/
  | paceUnderflow (lane : LaneId)
  /-- POLL_EXPIRY (R66). -/
  | pollExpiry (lane : LaneId)
  /-- STARVE_MS_TICK (R68). -/
  | starveMsTick (lane : LaneId)
  /-- CHECK_ISSUE (R77). -/
  | checkIssue (lane : LaneId)
  /-- PAIRED_ISSUE (R100). -/
  | pairedIssue (pair : PairId)
  /-- ARBITER_GRANT (R79): `pick` chooses among control requests that began waiting together. -/
  | arbiterGrant (pick : Nat)
  /-- FETCH_START (R80): `ctx` is the free digest context that is bound. -/
  | fetchStart (ctx : CtxId)
  /-- FETCH_COMPLETION (R82): data for a stripe fetch request arrives, `addr` being the address of its first byte. -/
  | fetchCompletion (tag : Nat) (addr : Addr) (data : List Byte)
  /-- FETCH_REQUEST_FAIL (R83): a fetch request completes with an error status or times out. -/
  | fetchRequestFail (tag : Nat)
  /-- MEND_START (R114). -/
  | mendStart
  /-- MEND_COMPLETION (R115): data for a donor read request arrives. -/
  | mendCompletion (tag : Nat) (addr : Addr) (data : List Byte)
  /-- MEND_REQUEST_FAIL (R117). -/
  | mendRequestFail (tag : Nat)
  /-- CLOSE_BEGIN (R126). -/
  | closeBegin (lane : LaneId)
  /-- FINDING_DISPOSE (R153): `pick` chooses among submitters that began to wait together. -/
  | findingDispose (pick : Nat)
  /-- STRIP_READ_COMPLETE (R154). -/
  | stripReadComplete (tag : Nat) (value : Word)
  /-- STRIP_READ_FAIL (R154). -/
  | stripReadFail (tag : Nat)
  /-- TRIP_ENTRY_READ_COMPLETE (R149): the 16 bytes of one trip point entry arrive. -/
  | tripEntryReadComplete (tag : Nat) (data : List Byte)
  /-- TRIP_ENTRY_READ_FAIL (R149). -/
  | tripEntryReadFail (tag : Nat)
  /-- MSI_ENABLE_CHANGE (R158): message-signalled interrupts are enabled or disabled in the PCI Express configuration. -/
  | msiEnableChange (on : Bool)
  deriving DecidableEq, Repr

end Sys2Proof
end

