-- ==== Sys2Proof/Config.lean ====
section
/-! DEFINITION. The numbers the manual fixes for the CJS-8, and the one VALUE it leaves open, as a free value (log entry
51). Where the manual leaves an ORDER open, the choice is an operand of the command (log entry 3). -/

namespace Sys2Proof.Config

/-- Capacity of the stripe board (R73). -/
def boardPlaces : Nat := 32
/-- Quota of one lane on the stripe board (R73). -/
def laneQuota : Nat := 8
/-- Frame records a window holds at most (R32). -/
def windowPlaces : Nat := 4
/-- Positions a withdraw list holds at most (R55). -/
def withdrawPlaces : Nat := 4
/-- Check values of room in a lane's reference store (R33). -/
def storeValues : Nat := 8192
/-- Places of the mend queue (chapter 7). -/
def mendPlaces : Nat := 8
/-- Requests a digest context or the mend engine keeps outstanding at most (R81, R115). -/
def maxOutstanding : Nat := 16
/-- Bytes of a read request at most, and the boundary at which a fetch is cut (R81). -/
def requestBytes : Nat := 512
/-- The read completion timeout, 50 ms, in ticks of 1 µs (section 1.4, R57). -/
def timeoutTicks : Nat := 50000
/-- The longest legal frame, 2^28 bytes (R2). -/
def maxFrameBytes : Nat := 268435456
/-- The most stripes of a frame (R2). -/
def maxStripes : Nat := 4096
/-- Unreadable range slots of a frame entry (section 1.2). -/
def rangeSlots : Nat := 4
/-- The value at which every tally counter saturates, 2^32 - 1 (R130). -/
def counterMax : Nat := 4294967295
/-- The upper clamp of WINDOW, QUIET and SEED, and the greatest score (R22, R139). -/
def scoreMax : Nat := 1000000
/-- Ticks of one unit of POLL_INTERVAL, 100 µs (R66). -/
def pollUnit : Nat := 100
/-- Ticks of one millisecond (R68). -/
def ticksPerMs : Nat := 1000
/-- What PART_ID reads at all times (R163). -/
def partId : Word := 0x4D530802#32

/-- FREE VALUE, DESIGN CHOICE (log entry 51): what word W4 or W5 of a STRIPE_RUN record holds in place of an expected or
computed value that is absent, of which R129 and R166 give the presence bit alone. It is fresh for each command count, lane,
first stripe and word. -/
opaque absentValue (now lane first word : Nat) : Word

end Sys2Proof.Config
end

