-- ==== Sys2Proof/Machine/State.lean ====
section
/-! DEFINITION. The state of the CJS-8 as plain data: the register window, the directory unit, the findings unit, the
attention mechanism, the eight lane contexts with their windows and pacing timers, the stripe board, the read port and
its digest contexts, the twin reconciler, the mend engine, the health unit and the write path; the command queue; the
reasons a step can stop; and `State.reset`. A count the manual keeps beside a collection it counts (a quota count, a
frame's board count, its unsettled and pending-mend counts, the mend queue's free places, the values in use in a
reference store, the lanes-open mask) is computed from that collection and not stored twice (log entry 5). -/

namespace Sys2Proof.Machine

/-! ### Reasons a step stops -/

/-- No command of this block stops with a fault: the manual answers every event (log entry 1). -/
inductive Fault
  deriving DecidableEq, Repr

/-- Why a command has no meaning. -/
inductive Refusal where
  /-- Raised by `exec` alone, for a command the model gives no meaning; safe. No arm of `exec` raises it now. -/
  | notModelled (mnemonic : String)
  deriving DecidableEq, Repr

/-! ### Findings, the write path and control reads -/

/-- The causes of a lane state (section 3.1). -/
inductive Cause where
  | noCause
  | reset
  | closedByCommand
  | aborted
  | noFrames
  | twinWait
  | sheetInvalid
  | markInvalid
  | busFault
  | twinMismatch
  deriving DecidableEq, Repr

/-- A block that hands over a finding, and what it goes on to do when the finding is disposed of (R153). -/
inductive Submitter where
  /-- A lane: the closing sequence or the end of its reel that waited for the finding may follow (R129, R131). -/
  | lane (n : LaneId)
  /-- A lane at step 3 of a close: the next run finding, or step 4, follows (R129). -/
  | closeRun (n : LaneId)
  /-- A lane ending its reel with that cause: the CLOSED state write follows (R47, R48). -/
  | reelEnd (n : LaneId) (cause : Cause)
  /-- A lane that entered FAULTED: the LANE cause follows (R36, R50). -/
  | fault (n : LaneId)
  /-- The mend engine: its next request follows (R155). -/
  | mendEngine
  /-- The health unit: the TRIP cause and its next evaluation follow (R144, R145). -/
  | health
  deriving DecidableEq, Repr

/-- The blocks that hand findings over (R153). -/
inductive Block where
  | lane (n : LaneId)
  | mendEngine
  | health
  deriving DecidableEq, Repr

/-- A finding record less its cumulative index (R156, R166). -/
structure Finding where
  kind : Byte
  lane : Byte
  code : Byte
  aux : Byte
  w0 : Word
  w1 : Word
  w2 : Word
  w3 : Word
  w4 : Word
  w5 : Word
  deriving DecidableEq, Repr

/-- A finding that waits for the findings unit; `since` is the command count at its handing over. -/
structure Waiting where
  finding : Finding
  submitter : Submitter
  since : Nat
  deriving DecidableEq, Repr

/-- What leaves through the one write path (section 1.3, R158): a posted write, or an interrupt message. -/
inductive Posted where
  | write (addr : Addr) (data : List Byte)
  | message
  deriving DecidableEq, Repr

/-- What a control read reads (R79). -/
inductive CtlKind where
  | dirHeader
  | tripEntry (t : TripId)
  | stripRead
  | laneEntry (n : LaneId)
  | sheetHeader (n : LaneId)
  | fill (n : LaneId)
  | descriptor (n : LaneId)
  /-- The header of the reference list of the frame at `pos`. -/
  | refHeader (n : LaneId) (pos : Word)
  /-- The body request of that list whose first value is value `first`. -/
  | refBody (n : LaneId) (pos : Word) (first : Nat)
  deriving DecidableEq, Repr

/-- A control read, waiting for the arbiter or sent. -/
structure CtlRead where
  tag : Nat
  kind : CtlKind
  addr : Addr
  len : Nat
  /-- 1, or 2 for the second attempt. -/
  attempt : Nat
  sent : Bool
  /-- The command count when the request began to wait (R79: oldest first). -/
  since : Nat
  /-- The clock at sending, for the 50 ms completion timer. -/
  sentAt : Nat
  /-- Its data is discarded on arrival, and no second attempt is made (R48, R50). -/
  discard : Bool
  deriving DecidableEq, Repr

/-! ### Streams: what a digest context and the mend engine read (R81, R82, R115) -/

/-- A read request that has been sent and is outstanding. -/
structure ReadReq where
  tag : Nat
  /-- Offset of its first byte from the stripe start. -/
  off : Nat
  len : Nat
  /-- Bytes of it that have arrived. -/
  got : Nat
  sentAt : Nat
  deriving DecidableEq, Repr

/-- Data that arrived ahead of an earlier request's data. -/
structure Piece where
  off : Nat
  data : List Byte
  deriving DecidableEq, Repr

/-- One stripe being read in address order into a CRC accumulator. -/
structure Stream where
  src : Addr
  len : Nat
  crc : Word
  /-- Offset of the next request to send. -/
  next : Nat
  /-- Bytes absorbed into the accumulator. -/
  absorbed : Nat
  outstanding : List ReadReq
  kept : List Piece
  failed : Bool
  deriving DecidableEq, Repr

/-- A busy digest context: the entry it fetches, and the stream it reads (R81). -/
structure Fetch where
  lane : LaneId
  pos : Word
  stripe : Nat
  stream : Stream
  deriving DecidableEq, Repr

/-! ### Frames and stripes -/

/-- Why a side has no trustworthy value (R85, R87). -/
inductive TransitReason where
  | busFailed
  | transient
  | unstable
  deriving DecidableEq, Repr

/-- The outcome of one side of a stripe (R6). -/
inductive SideOutcome where
  | computed (value : Word)
  | unreadable
  | transit (why : TransitReason)
  deriving DecidableEq, Repr

/-- A stripe verdict (R14, R16), unsettled until settling (R15). -/
inductive Verdict where
  | unsettled
  | clean
  | consistent
  | unverified
  | damaged
  | mended
  | mendable
  | divergent
  | suspect
  | unreadable
  | transit
  deriving DecidableEq, Repr

/-- One entry of a frame's stripe verdict list (R15). -/
structure Stripe where
  outcome : Option SideOutcome
  verdict : Verdict
  computed : Option Word
  expected : Option Word
  reason : Option TransitReason
  deriving DecidableEq, Repr

/-- An effective unreadable range: byte offsets `start` up to, not including, `stop` (R3). -/
structure ByteRange where
  start : Nat
  stop : Nat
  deriving DecidableEq, Repr

/-- The kind of a frame record (R32). -/
inductive FrameKind where
  | normal
  | malformed
  | withdrawn
  deriving DecidableEq, Repr

/-- Where a frame's reference stands (R10, R32, R33): pending in the first three, settled in the last two. -/
inductive RefState where
  /-- No reservation yet. -/
  | waiting
  /-- Reservation granted, list read not begun (R34). -/
  | granted
  /-- List read in flight. -/
  | reading
  /-- The frame has a reference. -/
  | present
  /-- The frame has none, by address 0 or by rejection. -/
  | absent
  deriving DecidableEq, Repr

/-- Why a frame is SOLO (R96). -/
inductive SoloReason where
  | unlinked
  | missing
  | length
  | withdrawn
  | lost
  deriving DecidableEq, Repr

/-- The pairing status of a frame (R96). -/
inductive Pairing where
  | pending
  | paired (partner : Word)
  | solo (why : SoloReason)
  deriving DecidableEq, Repr

/-- A frame record of a window (R32, R78, R96). -/
structure Frame where
  pos : Word
  number : Word
  kind : FrameKind
  length : Nat
  /-- The stripe count N; 0 when the length is illegal. -/
  n : Nat
  buffer : Addr
  refAddr : Addr
  mendAddr : Addr
  recordAddr : Addr
  ranges : List ByteRange
  stripes : List Stripe
  ref : RefState
  /-- The values reserved in the reference store, none when no reservation is held (R33). -/
  reservation : Option (List Word)
  refGeometry : Bool
  refUnreadable : Bool
  recordSkipped : Bool
  unpaired : Bool
  /-- The issue cursor (R78). -/
  cursor : Nat
  pairing : Pairing
  deriving DecidableEq, Repr

/-! ### Lanes -/

/-- The lane states (section 3.1). -/
inductive LaneState where
  | closed
  | opening
  | active
  | starved
  | paused
  | draining
  | faulted
  deriving DecidableEq, Repr

/-- The results of an acknowledged command (section 3.1). -/
inductive AckResult where
  | done
  | refusedState
  | refusedTwin
  | unknownCommand
  deriving DecidableEq, Repr

/-- The five options of a reel sheet (R20). -/
structure Options where
  record : Bool
  confirm : Bool
  mend : Bool
  twinLead : Bool
  twinFollow : Bool
  deriving DecidableEq, Repr

/-- The settings a lane caches, clamped, at OPEN (R19, R22). -/
structure Settings where
  options : Options
  /-- Stripe exponent e. -/
  exponent : Nat
  /-- Ring exponent k. -/
  ringLog : Nat
  ringBase : Addr
  pollInterval : Nat
  /-- PACE_RELOAD P; 0 means unpaced. -/
  paceReload : Nat
  /-- PACE_FINE F. -/
  paceFine : Nat
  starveLimit : Nat
  avgSamples : Nat
  window : Nat
  quiet : Nat
  seed : Nat
  deriving DecidableEq, Repr

/-- How far an OPENING lane has come (R42, R43). -/
inductive OpenPhase where
  /-- The lane is not opening. -/
  | idle
  /-- Step 1 waits for the part to run before it reads the header. -/
  | headerDue
  /-- The header read is in flight. -/
  | headerRead
  /-- Steps 1 and 2 are done; step 3 waits for the part to run. -/
  | drainDue
  /-- Steps 3 and 4 are done; the first FILL value is awaited. -/
  | fillRead
  deriving DecidableEq, Repr

/-- An abort in progress: the sequence number to acknowledge, and whether R49 or R48 ends it. -/
structure Abort where
  seq : Word
  /-- R49 (from FAULTED or early OPENING) instead of R48. -/
  bare : Bool
  deriving DecidableEq, Repr

/-- A lane's pacing timer (chapter 4). -/
structure Pacing where
  count : Nat
  /-- Fine group index, 1 to 16. -/
  group : Nat
  extraSpent : Bool
  permit : Bool
  poll : Nat
  starveMs : Nat
  starveSub : Nat
  reported : Bool
  deriving DecidableEq, Repr

/-- A lane's tally and scores in the health unit (chapters 8 and 9). -/
structure Tally where
  framesClosed : Nat
  damage : Nat
  transit : Nat
  suspect : Nat
  longestStarve : Nat
  scoreS : Nat
  scoreR : Nat
  closeCause : Cause
  deriving DecidableEq, Repr

/-- A lane context (chapters 2, 3 and 4), with the lane's tally. -/
structure Lane where
  state : LaneState
  cause : Cause
  lastSeq : Word
  wakeLatch : Bool
  abort : Option Abort
  /-- A closing sequence in progress at step 3: the run findings not yet handed over (R129). -/
  closing : Option (List Finding)
  /-- An end-of-reel or abort write sequence begun, with its cause (R47, R48). -/
  ending : Option Cause
  /-- A fault that waits for the closing sequence in progress (R50, R134). -/
  faultDue : Option Cause
  opening : OpenPhase
  /-- The leader's CLOSE reached this follower while it was OPENING (R110). -/
  drainOnFill : Bool
  /-- A pause of the linked pair moved the leader while this follower was OPENING (R109). -/
  pauseOnFill : Bool
  sheet : Addr
  settings : Settings
  drain : Word
  taken : Word
  fillSeen : Word
  window : List Frame
  withdraws : List Word
  fillLatch : Bool
  pacing : Pacing
  tally : Tally
  deriving DecidableEq, Repr

/-! ### The stripe board and the read port -/

/-- The attempt a stripe entry stands for (R74). -/
inductive Purpose where
  | check
  | retry
  | confirm
  deriving DecidableEq, Repr

/-- Where a stripe entry stands (R74, R76): FINISHED and FAILED last only until the board has handled the fetch end,
which it does in the same step. -/
inductive EntryState where
  | queued
  | fetching
  | finished
  | failed
  | held
  deriving DecidableEq, Repr

/-- A stripe entry (R74). Its partner, when present, is the entry for the same stripe of the twin lane's frame at that
position. -/
structure Entry where
  lane : LaneId
  pos : Word
  stripe : Nat
  src : Addr
  len : Nat
  purpose : Purpose
  first : Option Word
  current : Option Word
  partner : Option Word
  discard : Bool
  state : EntryState
  /-- The outcome a HELD entry keeps (R102). -/
  outcome : Option SideOutcome
  deriving DecidableEq, Repr

/-- The read port arbiter's pointers and the board's issue round-robin (R93). -/
structure Arbiter where
  /-- The next lane to consider for a fetch start (R80). -/
  fetchNext : LaneId
  /-- The next lane to consider for a CHECK issue (R77). -/
  issueNext : LaneId
  /-- The next digest context to consider (R79). -/
  ctxNext : CtxId
  /-- The last grant between the stripe and the mend class went to the mend class (R79). -/
  lastMend : Bool
  deriving DecidableEq, Repr

/-! ### Twin reels and mending -/

/-- An item of a pair issue queue (R100). -/
inductive PairItem where
  | both (leader follower : Word)
  | leaderSolo (pos : Word)
  | followerSolo (pos : Word)
  deriving DecidableEq, Repr

/-- A twin link with its pair issue queue (R94, R100). -/
structure Link where
  linked : Bool
  queue : List PairItem
  deriving DecidableEq, Repr

/-- A stripe on the vote wait list (R103, R113). -/
structure VoteWait where
  pair : PairId
  leaderPos : Word
  followerPos : Word
  stripe : Nat
  /-- Places its vote needs. -/
  need : Nat
  /-- Places reserved for it. -/
  got : Nat
  deriving DecidableEq, Repr

/-- A mend request (R112). -/
structure MendReq where
  donorLane : LaneId
  donorPos : Word
  lane : LaneId
  pos : Word
  stripe : Nat
  src : Addr
  len : Nat
  dst : Addr
  ref : Word
  deriving DecidableEq, Repr

/-- The active mend's copy (chapter 7): the attempt, the donor stream, and the bytes of the block being absorbed. -/
structure Copy where
  attempt : Nat
  stream : Stream
  block : List Byte
  deriving DecidableEq, Repr

/-- The mend engine's state (chapter 7); STOPPING keeps the requests still outstanding (R120). -/
inductive Engine where
  | idle
  | copying (copy : Copy)
  | stopping (outstanding : List ReadReq)
  deriving DecidableEq, Repr

/-- The mend engine: its queue, oldest first (the active request is the oldest), and its state. -/
structure Mender where
  queue : List MendReq
  engine : Engine
  deriving DecidableEq, Repr

/-! ### Trip points, the directory unit and the findings unit -/

/-- The action of a trip point (R143). -/
inductive TripAction where
  | notify
  | pause
  | step
  deriving DecidableEq, Repr

/-- The settings of a trip point entry as they stand in memory: a staged copy (R149). -/
structure TripRaw where
  enable : Bool
  source : Nat
  action : Nat
  threshold : Nat
  hysteresis : Nat
  deriving DecidableEq, Repr

/-- A trip point (section 9.3): active settings as treated, trip state, baseline, staged copy. -/
structure TripPoint where
  enable : Bool
  source : Nat
  action : TripAction
  threshold : Nat
  hysteresis : Nat
  /-- TRIPPED (set) or ARMED. -/
  tripped : Bool
  baseline : Nat
  staged : Option TripRaw
  deriving DecidableEq, Repr

/-- The directory unit: the cached header (R159), the reload latch and the reload in progress with the entries that
have arrived (R149). -/
structure Directory where
  stripBase : Addr
  stripCapacity : Nat
  reloadLatch : Bool
  reload : Option (Vector (Option TripRaw) 4)
  deriving DecidableEq, Repr

/-- The findings unit (R152) with its waiting submitters and the disposal that waits for STRIP_READ (R153). -/
structure FindingsUnit where
  written : Word
  lastRead : Word
  room : Nat
  drops : Nat
  overrun : Bool
  waiting : List Waiting
  disposing : Option Waiting
  deriving DecidableEq, Repr

/-- The attention causes, in the bit positions of ATTENTION (R157). -/
inductive Attention where
  | findings
  | trip
  | lane
  | quiesced
  | recallRefused
  | directoryFault
  deriving DecidableEq, Repr

/-- The registers that hold state: CONTROL and STATUS by their fields, the others as words (R162, R163). WAKE reads as
0, PART_ID is constant, and the lanes-open mask of STATUS is computed from the lanes. -/
structure Registers where
  enable : Bool
  quiesce : Bool
  enabled : Bool
  ready : Bool
  quiesced : Bool
  dirFault : Bool
  reloadBusy : Bool
  dirLo : Word
  dirHi : Word
  recallReg : Word
  attention : BitVec 6
  mask : BitVec 6
  deriving DecidableEq, Repr

/-- The state of the part. -/
structure State where
  /-- The commands that wait, first in first out (the model's own field). -/
  pending : List Instr
  /-- Ticks of the pace clock since the last hard reset (R57). -/
  clock : Nat
  /-- Commands that have taken effect (the model's own field): what "began waiting together" is judged by. -/
  now : Nat
  /-- The tag the next read request gets (the model's own field, log entry 4). -/
  nextTag : Nat
  regs : Registers
  /-- Message-signalled interrupts are enabled in the PCI Express configuration (R158). -/
  msi : Bool
  /-- Everything issued through the write path so far, oldest first (log entry 2). -/
  out : List Posted
  dir : Directory
  strip : FindingsUnit
  /-- Control reads in flight, in the order in which they began to wait. -/
  ctl : List CtlRead
  arbiter : Arbiter
  /-- The digest contexts; `none` is a free one. -/
  ctxs : Vector (Option Fetch) 4
  /-- The stripe board: the entries of one lane stand in that lane's order (R75). -/
  board : List Entry
  lanes : Vector Lane 8
  links : Vector Link 4
  votes : List VoteWait
  mender : Mender
  trips : Vector TripPoint 4
  /-- The evaluations of the health unit that are due, in order: the lane whose frame closed, and the trip point (R144). -/
  evaluations : List (LaneId × TripId)
  deriving DecidableEq, Repr

/-! ### Reset values -/

/-- The cached settings of a lane that has opened no reel since reset (R35). -/
def Settings.reset : Settings where
  options := ⟨false, false, false, false, false⟩
  exponent := 0
  ringLog := 0
  ringBase := 0
  pollInterval := 0
  paceReload := 0
  paceFine := 0
  starveLimit := 0
  avgSamples := 0
  window := 0
  quiet := 0
  seed := 0

/-- R72. -/
def Pacing.reset : Pacing where
  count := 0
  group := 1
  extraSpent := false
  permit := false
  poll := 0
  starveMs := 0
  starveSub := 0
  reported := false

/-- R151. -/
def Tally.reset : Tally where
  framesClosed := 0
  damage := 0
  transit := 0
  suspect := 0
  longestStarve := 0
  scoreS := 0
  scoreR := 0
  closeCause := .noCause

/-- R35, R37, R56, R135. -/
def Lane.reset : Lane where
  state := .closed
  cause := .reset
  lastSeq := 0
  wakeLatch := false
  abort := none
  closing := none
  ending := none
  faultDue := none
  opening := .idle
  drainOnFill := false
  pauseOnFill := false
  sheet := 0
  settings := Settings.reset
  drain := 0
  taken := 0
  fillSeen := 0
  window := []
  withdraws := []
  fillLatch := false
  pacing := Pacing.reset
  tally := Tally.reset

/-- R93. -/
def Arbiter.reset : Arbiter where
  fetchNext := 0
  issueNext := 0
  ctxNext := 0
  lastMend := true

/-- R94. -/
def Link.reset : Link := ⟨false, []⟩

/-- R123. -/
def Mender.reset : Mender := ⟨[], .idle⟩

/-- R151. -/
def TripPoint.reset : TripPoint where
  enable := false
  source := 0
  action := .notify
  threshold := 0
  hysteresis := 0
  tripped := false
  baseline := 0
  staged := none

/-- R164: no cached header; R151: no reload and no latched request. -/
def Directory.reset : Directory where
  stripBase := 0
  stripCapacity := 0
  reloadLatch := false
  reload := none

/-- R152. -/
def FindingsUnit.reset : FindingsUnit where
  written := 0
  lastRead := 0
  room := 0
  drops := 0
  overrun := false
  waiting := []
  disposing := none

/-- R165. -/
def Registers.reset : Registers where
  enable := false
  quiesce := false
  enabled := false
  ready := false
  quiesced := false
  dirFault := false
  reloadBusy := false
  dirLo := 0
  dirHi := 0
  recallReg := 0
  attention := 0
  mask := 0

/-- The part right after power-on (R165). -/
def State.reset : State where
  pending := []
  clock := 0
  now := 0
  nextTag := 0
  regs := Registers.reset
  msi := false
  out := []
  dir := Directory.reset
  strip := FindingsUnit.reset
  ctl := []
  arbiter := Arbiter.reset
  ctxs := Vector.replicate 4 none
  board := []
  lanes := Vector.replicate 8 Lane.reset
  links := Vector.replicate 4 Link.reset
  votes := []
  mender := Mender.reset
  trips := Vector.replicate 4 TripPoint.reset
  evaluations := []

end Sys2Proof.Machine
end

