-- ==== Sys2Proof/Machine/Bytes.lean ====
section
/-! DEFINITION. Byte order and the stripe check value: every record in host memory is little-endian (section 1.6), and
a check value is the CRC of R5. -/

namespace Sys2Proof.Machine

/-- `count` bytes of a value, least significant first (section 1.6). -/
def leBytes : Nat → Nat → List Byte
  | 0, _ => []
  | count + 1, v => BitVec.ofNat 8 v :: leBytes count (v / 256)

/-- The value of bytes that stand least significant first. -/
def leNat : List Byte → Nat
  | [] => 0
  | b :: bs => b.toNat + 256 * leNat bs

/-- The value of the field of `size` bytes at offset `off` of a record. -/
def field (data : List Byte) (off size : Nat) : Nat :=
  leNat ((data.drop off).take size)

/-- A 4-byte field as it is written. -/
def wordBytes (w : Word) : List Byte := leBytes 4 w.toNat

/-- A count as a 4-byte field. -/
def natWord (v : Nat) : Word := BitVec.ofNat 32 v

/-- The 4-byte values of a list body, in order. -/
def leWords : List Byte → List Word
  | a :: b :: c :: d :: rest => natWord (leNat [a, b, c, d]) :: leWords rest
  | _ => []

/-- One of the eight steps R5 makes for a byte. -/
def crcStep (r : Word) : Word :=
  if r.getLsbD 0 then (r >>> 1) ^^^ 0x82F63B78#32 else r >>> 1

/-- The register after one byte (R5). -/
def crcByte (r : Word) (b : Byte) : Word :=
  crcStep (crcStep (crcStep (crcStep (crcStep (crcStep (crcStep (crcStep (r ^^^ b.setWidth 32))))))))

/-- The register at the start of a fetch (R5). -/
def crcInit : Word := 0xFFFFFFFF#32

/-- The check value of a stripe's bytes in address order (R5). -/
def crcValue (bytes : List Byte) : Word := ~~~(bytes.foldl crcByte crcInit)

end Sys2Proof.Machine
end

