-- ==== Sys2Proof/Machine/Operands.lean ====
section
/-! DEFINITION. The operands of the part: the records it reads (R166) with their checks and clamps, the addresses of
the records, the codes of states, causes and results, and the stripe geometry of a frame (R1 to R4, R30). -/

namespace Sys2Proof.Machine

/-! ### Twin pairs (section 6.1) -/

/-- The other lane of a lane's twin pair. -/
def twin (n : LaneId) : LaneId :=
  ⟨if n.val % 2 = 0 then n.val + 1 else n.val - 1, by split <;> omega⟩

/-- The pair a lane belongs to. -/
def pairOf (n : LaneId) : PairId := ⟨n.val / 2, by omega⟩

/-- The even lane of a pair. -/
def leader (p : PairId) : LaneId := ⟨2 * p.val, by omega⟩

/-- The odd lane of a pair. -/
def follower (p : PairId) : LaneId := ⟨2 * p.val + 1, by omega⟩

/-- A lane is odd, so that it can only follow. -/
def isFollower (n : LaneId) : Bool := n.val % 2 = 1

/-- All lanes, all twin pairs, all contexts and all trip points, in ascending order. -/
def allLanes : List LaneId := [0, 1, 2, 3, 4, 5, 6, 7]
def allPairs : List PairId := [0, 1, 2, 3]
def allCtxs : List CtxId := [0, 1, 2, 3]
def allTrips : List TripId := [0, 1, 2, 3]

/-- The lanes from lane `n` on, running 0 to 7 and back to 0 (R77, R80). -/
def lanesFrom (n : LaneId) : List LaneId := [n, n + 1, n + 2, n + 3, n + 4, n + 5, n + 6, n + 7]

/-- The digest contexts from context `c` on (R79). -/
def ctxsFrom (c : CtxId) : List CtxId := [c, c + 1, c + 2, c + 3]

/-! ### Codes (section 3.1, R166) -/

/-- The lane state codes. -/
def LaneState.code : LaneState → Nat
  | .closed => 0
  | .opening => 1
  | .active => 2
  | .starved => 3
  | .paused => 4
  | .draining => 5
  | .faulted => 6

/-- The cause codes. -/
def Cause.code : Cause → Nat
  | .noCause => 0
  | .reset => 1
  | .closedByCommand => 2
  | .aborted => 3
  | .noFrames => 4
  | .twinWait => 5
  | .sheetInvalid => 6
  | .markInvalid => 7
  | .busFault => 8
  | .twinMismatch => 9

/-- The acknowledgement codes. -/
def AckResult.code : AckResult → Nat
  | .done => 1
  | .refusedState => 2
  | .refusedTwin => 3
  | .unknownCommand => 4

/-- The stripe verdict codes of a STRIPE_RUN finding: 1 CLEAN to 10 TRANSIT, in category count order (R166). -/
def Verdict.code : Verdict → Nat
  | .unsettled => 0
  | .clean => 1
  | .consistent => 2
  | .unverified => 3
  | .damaged => 4
  | .mended => 5
  | .mendable => 6
  | .divergent => 7
  | .suspect => 8
  | .unreadable => 9
  | .transit => 10

/-- The transit reason codes of a STRIPE_RUN finding. -/
def TransitReason.code : TransitReason → Nat
  | .busFailed => 1
  | .transient => 2
  | .unstable => 3

/-- The codes of the reasons a FRAME_UNPAIRED finding carries; 0 for a reason that writes none (R99). -/
def SoloReason.code : SoloReason → Nat
  | .missing => 1
  | .length => 2
  | .withdrawn => 3
  | .unlinked => 0
  | .lost => 0

/-- The action codes of a trip point. -/
def TripAction.code : TripAction → Nat
  | .notify => 0
  | .pause => 1
  | .step => 2

/-! ### Addresses -/

/-- An address with its low `bits` bits cleared. -/
def alignDown (a : Addr) (bits : Nat) : Addr := (a >>> bits) <<< bits

/-- The directory address held in DIR_BASE (R162). -/
def Registers.dirBase (r : Registers) : Addr := r.dirHi ++ r.dirLo

/-- The address `off` bytes past `a`. -/
def Addr.plus (a : Addr) (off : Nat) : Addr := a + BitVec.ofNat 64 off

/-- The lane entry of lane `n` (R166). -/
def laneEntryAddr (r : Registers) (n : LaneId) : Addr := Addr.plus r.dirBase (0x40 + 32 * n.val)

/-- Trip point entry `t` (R166). -/
def tripEntryAddr (r : Registers) (t : TripId) : Addr := Addr.plus r.dirBase (0x140 + 16 * t.val)

/-- The frame entry at a cumulative position (R23). -/
def slotAddr (c : Settings) (pos : Word) : Addr :=
  Addr.plus c.ringBase (pos.toNat % 2 ^ c.ringLog * 128)

/-! ### The directory header and the trip point entries -/

/-- The directory header (R166). -/
structure DirHeader where
  layout : Nat
  stripLog : Nat
  stripBase : Addr
  deriving DecidableEq, Repr

/-- The fields of a directory header's 64 bytes; STRIP_BASE with its low 5 bits ignored (R159). -/
def readDirHeader (data : List Byte) : DirHeader where
  layout := field data 0x000 4
  stripLog := field data 0x004 1
  stripBase := alignDown (BitVec.ofNat 64 (field data 0x008 8)) 5

/-- The header checks of R159. -/
def DirHeader.valid (h : DirHeader) : Bool :=
  h.layout = 1 && 6 ≤ h.stripLog && h.stripLog ≤ 16 && h.stripBase ≠ 0

/-- A trip point entry's 16 bytes, as they stand in memory (R149, R166). -/
def readTripEntry (data : List Byte) : TripRaw where
  enable := field data 0x0 1 % 2 = 1
  source := field data 0x1 1
  action := field data 0x2 1
  threshold := field data 0x4 4
  hysteresis := field data 0x8 4

/-! ### The reel sheet header (R19 to R22) -/

/-- A reel sheet header as it stands in memory. -/
structure SheetHeader where
  options : Options
  stripeLog : Nat
  ringLog : Nat
  ringBase : Addr
  pollInterval : Nat
  paceReload : Nat
  paceFine : Nat
  starveLimit : Nat
  avgSamples : Nat
  window : Nat
  quiet : Nat
  seed : Nat
  deriving DecidableEq, Repr

/-- Bit `i` of an options word. -/
def optionBit (w i : Nat) : Bool := w / 2 ^ i % 2 = 1

/-- The five options; every other bit is ignored (R20). -/
def readOptions (w : Nat) : Options where
  record := optionBit w 0
  confirm := optionBit w 1
  mend := optionBit w 2
  twinLead := optionBit w 3
  twinFollow := optionBit w 4

/-- The fields of a sheet header's 64 bytes (R166). -/
def readSheetHeader (data : List Byte) : SheetHeader where
  options := readOptions (field data 0x00 4)
  stripeLog := field data 0x04 1
  ringLog := field data 0x05 1
  paceFine := field data 0x06 1
  avgSamples := field data 0x07 1
  ringBase := BitVec.ofNat 64 (field data 0x08 8)
  pollInterval := field data 0x10 2
  paceReload := field data 0x12 2
  starveLimit := field data 0x14 4
  window := field data 0x18 4
  quiet := field data 0x1C 4
  seed := field data 0x20 4

/-- The twin options agree with the lane's number (R20). -/
def twinOptionsValid (n : LaneId) (o : Options) : Bool :=
  !(o.twinLead && isFollower n) && !(o.twinFollow && !isFollower n) && !(o.twinLead && o.twinFollow)

/-- The conditions of R21 that the header decides. -/
def SheetHeader.valid (h : SheetHeader) (n : LaneId) : Bool :=
  12 ≤ h.stripeLog && h.stripeLog ≤ 20 && 4 ≤ h.ringLog && h.ringLog ≤ 12 &&
    h.ringBase ≠ 0 && h.ringBase.toNat % 128 = 0 && twinOptionsValid n h.options

/-- A value taken as at least 1. -/
def atLeastOne (v : Nat) : Nat := if v = 0 then 1 else v

/-- The settings a lane caches, clamped (R22). -/
def SheetHeader.clamped (h : SheetHeader) : Settings where
  options := h.options
  exponent := h.stripeLog
  ringLog := h.ringLog
  ringBase := h.ringBase
  pollInterval := atLeastOne h.pollInterval
  paceReload := h.paceReload
  paceFine := min h.paceFine 15
  starveLimit := h.starveLimit
  avgSamples := min (atLeastOne h.avgSamples) 64
  window := min h.window Config.scoreMax
  quiet := min h.quiet Config.scoreMax
  seed := min h.seed Config.scoreMax

/-! ### Frame descriptors and stripe geometry (R1 to R4, R30) -/

/-- A frame descriptor as it stands in memory. -/
structure Descriptor where
  number : Word
  length : Nat
  buffer : Addr
  refAddr : Addr
  mendAddr : Addr
  recordAddr : Addr
  rangeCount : Nat
  /-- Start and length of each of the four range slots. -/
  slots : List (Nat × Nat)
  deriving DecidableEq, Repr

/-- The fields of a descriptor's 96 bytes (R166). -/
def readDescriptor (data : List Byte) : Descriptor where
  number := natWord (field data 0x00 4)
  length := field data 0x04 4
  buffer := BitVec.ofNat 64 (field data 0x08 8)
  refAddr := BitVec.ofNat 64 (field data 0x10 8)
  mendAddr := BitVec.ofNat 64 (field data 0x18 8)
  recordAddr := BitVec.ofNat 64 (field data 0x20 8)
  rangeCount := field data 0x28 1
  slots := [0, 1, 2, 3].map fun i => (field data (0x30 + 8 * i) 4, field data (0x34 + 8 * i) 4)

/-- The stripe size S (R1). -/
def stripeSize (e : Nat) : Nat := 2 ^ e

/-- The stripe count N = ceil(L / S) (R1). -/
def stripeCount (e l : Nat) : Nat := (l + stripeSize e - 1) / stripeSize e

/-- The stripe start (R1). -/
def stripeStart (e i : Nat) : Nat := i * stripeSize e

/-- The stripe end (R1). -/
def stripeStop (e l i : Nat) : Nat := min ((i + 1) * stripeSize e) l

/-- The bytes of stripe `i`: S, or fewer in a short last stripe (R1). -/
def stripeLen (e l i : Nat) : Nat := stripeStop e l i - stripeStart e i

/-- A frame length within the part's limits (R2). -/
def lengthLegal (l : Nat) : Bool := 1 ≤ l && l ≤ Config.maxFrameBytes

/-- The checks of R30, the length first. -/
def Descriptor.malformed (d : Descriptor) (e : Nat) : Bool :=
  !lengthLegal d.length || Config.maxStripes < stripeCount e d.length ||
    Config.rangeSlots < d.rangeCount || d.buffer = 0

/-- The stripe count that R18 and R31 write: N of a legal length, and 0 otherwise. -/
def Descriptor.count (d : Descriptor) (e : Nat) : Nat :=
  if lengthLegal d.length then stripeCount e d.length else 0

/-- A range slot reduced to an effective range, or discarded (R3). -/
def effectiveRange (l : Nat) (slot : Nat × Nat) : Option ByteRange :=
  if slot.2 = 0 ∨ l ≤ slot.1 then none else some ⟨slot.1, min (slot.1 + slot.2) l⟩

/-- The effective ranges of a frame, in slot order (R3). -/
def Descriptor.ranges (d : Descriptor) : List ByteRange :=
  (d.slots.take d.rangeCount).filterMap (effectiveRange d.length)

/-- Stripe `i` overlaps an effective range, so it is an unreadable stripe (R4). -/
def stripeUnreadable (e l i : Nat) (ranges : List ByteRange) : Bool :=
  ranges.any fun r => r.start < stripeStop e l i && stripeStart e i < r.stop

/-- A stripe of a frame just taken (R6, R32). -/
def Stripe.fresh (unreadable : Bool) : Stripe where
  outcome := if unreadable then some .unreadable else none
  verdict := .unsettled
  computed := none
  expected := none
  reason := none

/-- The stripe verdict list of a normal frame just taken (R32). -/
def freshStripes (e l : Nat) (ranges : List ByteRange) : List Stripe :=
  (List.range (stripeCount e l)).map fun i => Stripe.fresh (stripeUnreadable e l i ranges)

/-- The lowest stripe index from `i` on that is not unreadable, or N (R78). -/
def nextReadable (stripes : List Stripe) (i : Nat) : Nat :=
  i + ((stripes.drop i).takeWhile fun t => t.outcome = some .unreadable).length

/-- The frame record a take places in the window (R30, R31, R32, R96). -/
def Descriptor.frame (d : Descriptor) (e : Nat) (pos : Word) (listed linked : Bool) : Frame :=
  let normal := !listed && !d.malformed e
  let ranges := if normal then d.ranges else []
  let stripes := if normal then freshStripes e d.length ranges else []
  { pos := pos
    number := d.number
    kind := if listed then .withdrawn else if d.malformed e then .malformed else .normal
    length := d.length
    n := d.count e
    buffer := d.buffer
    refAddr := d.refAddr
    mendAddr := d.mendAddr
    recordAddr := d.recordAddr
    ranges := ranges
    stripes := stripes
    ref := if normal && d.refAddr ≠ 0 then .waiting else .absent
    reservation := none
    refGeometry := false
    refUnreadable := false
    recordSkipped := false
    unpaired := false
    cursor := nextReadable stripes 0
    pairing := if normal && linked then .pending else .solo .unlinked }

/-! ### Reference lists (section 1.4) -/

/-- Check values in a body request of 512 bytes (R7). -/
def bodyChunk (n first : Nat) : Nat := min 128 (n - first)

/-- A reference list header agrees with the reel's e and the frame's N and L (R8). -/
def refHeaderAgrees (data : List Byte) (e n l : Nat) : Bool :=
  field data 0x00 1 = e && field data 0x04 4 = n && field data 0x08 4 = l

/-- The header of a record list, padding written as 0 (R11). -/
def refHeaderBytes (e n l : Nat) : List Byte :=
  leBytes 4 e ++ leBytes 4 n ++ leBytes 4 l ++ leBytes 4 0

end Sys2Proof.Machine
end

