-- ==== Sys2Proof/Machine/Flags.lean ====
section
/-! DEFINITION. The computed flags and words of the part: the attention line (R158), the STATUS, CONTROL and other
register words as they read (R162, R163), the verdict table of R14, the category counts, frame verdict code and flags
byte of a verdict area (R17, R18, R127), the run findings of a verdict list (R128), and the score arithmetic
(R137 to R140). -/

namespace Sys2Proof.Machine

/-! ### Bits of a word -/

/-- A bit as a number. -/
def bitNat (b : Bool) : Nat := if b then 1 else 0

/-! ### Attention (R157, R158) -/

/-- The bit of a cause in ATTENTION and ATTENTION_MASK. -/
def Attention.bit : Attention → BitVec 6
  | .findings => 0x01#6
  | .trip => 0x02#6
  | .lane => 0x04#6
  | .quiesced => 0x08#6
  | .recallRefused => 0x10#6
  | .directoryFault => 0x20#6

/-- The attention line is active (R158). -/
def Registers.line (r : Registers) : Bool := r.enable && r.attention &&& r.mask ≠ 0

/-! ### The part's condition -/

/-- The part is neither quiesced nor frozen: what QUIESCE and a clear ENABLE stop goes ahead (R160, R161). -/
def State.running (s : State) : Bool := s.regs.enable && !s.regs.quiesce

/-- Nothing that quiesce lets finish is in flight (R161). -/
def State.idle (s : State) : Bool :=
  allCtxs.all (fun c => s.ctxs[c.val].isNone) && s.mender.engine = .idle &&
    allLanes.all (fun n => s.lanes[n.val].closing.isNone && s.lanes[n.val].ending.isNone) && s.ctl.isEmpty

/-! ### Register reads (R163) -/

/-- The readable registers of the window (section 11.5). -/
inductive Reg where
  | partId
  | control
  | status
  | dirBaseLo
  | dirBaseHi
  | wake
  | recallReg
  | attention
  | attentionMask
  deriving DecidableEq, Repr

/-- The lanes-open mask: bit n is set while lane n is in any state but CLOSED (R163). -/
def State.lanesOpen (s : State) : Nat :=
  (allLanes.map fun n => bitNat (s.lanes[n.val].state ≠ .closed) * 2 ^ n.val).sum

/-- CONTROL as it reads: SOFT_RESET and TRIP_RELOAD read as 0 (R163). -/
def Registers.controlWord (r : Registers) : Word := natWord (bitNat r.enable + 2 * bitNat r.quiesce)

/-- STATUS as it reads (R163). -/
def State.statusWord (s : State) : Word :=
  natWord (bitNat s.regs.enabled + 2 * bitNat s.regs.ready + 4 * bitNat s.regs.quiesced +
    8 * bitNat s.regs.dirFault + 16 * bitNat s.regs.reloadBusy + 65536 * s.lanesOpen)

/-- What a read of a register gives. Reading changes nothing (R163), so it is a view and no command. -/
def State.readReg (s : State) : Reg → Word
  | .partId => Config.partId
  | .control => s.regs.controlWord
  | .status => s.statusWord
  | .dirBaseLo => s.regs.dirLo
  | .dirBaseHi => s.regs.dirHi
  | .wake => 0
  | .recallReg => s.regs.recallReg
  | .attention => s.regs.attention.setWidth 32
  | .attentionMask => s.regs.mask.setWidth 32

/-! ### Stripe verdicts (R13, R14, R15) -/

/-- The value of a usable side: a computed one (R13). -/
def SideOutcome.value? : SideOutcome → Option Word
  | .computed v => some v
  | .unreadable => none
  | .transit _ => none

/-- The transit reason of an outcome. -/
def SideOutcome.reason? : SideOutcome → Option TransitReason
  | .transit why => some why
  | .computed _ => none
  | .unreadable => none

/-- The twin's value when the twin is usable evidence (R13). -/
def usable (y : Option SideOutcome) : Option Word := y.bind SideOutcome.value?

/-- The verdict of side X: the table of R14, from the reference value, X's outcome and the twin's outcome. -/
def judge (r : Option Word) (x : SideOutcome) (y : Option SideOutcome) : Verdict :=
  match x, r, usable y with
  | .transit _, _, _ => .transit
  | .computed v, some r, some w =>
    if v = r then .clean else if w = r then .mendable else if w = v then .suspect else .damaged
  | .computed v, some r, none => if v = r then .clean else .damaged
  | .unreadable, some r, some w => if w = r then .mendable else .unreadable
  | .unreadable, some _, none => .unreadable
  | .unreadable, none, _ => .unreadable
  | .computed v, none, some w => if w = v then .consistent else .divergent
  | .computed _, none, none => .unverified

/-- The expected value: r, or the twin's value when there is no reference and the twin is usable (R15). -/
def expectedValue (r : Option Word) (y : Option SideOutcome) : Option Word :=
  match r with
  | some r => some r
  | none => usable y

/-- A stripe settled from its evidence (R15). -/
def settledStripe (r : Option Word) (x : SideOutcome) (y : Option SideOutcome) : Stripe where
  outcome := some x
  verdict := judge r x y
  computed := x.value?
  expected := expectedValue r y
  reason := x.reason?

/-! ### Frame verdicts (R17, R18, R127) -/

/-- The ten categories, in the order of the verdict area's counts. -/
def categories : List Verdict :=
  [.clean, .consistent, .unverified, .damaged, .mended, .mendable, .divergent, .suspect, .unreadable, .transit]

/-- The frame rank of a stripe verdict (R17). -/
def Verdict.rank : Verdict → Nat
  | .unsettled => 0
  | .clean => 1
  | .consistent => 1
  | .unverified => 2
  | .mended => 3
  | .transit => 4
  | .mendable => 5
  | .suspect => 6
  | .divergent => 7
  | .unreadable => 8
  | .damaged => 9

/-- How many stripes have a verdict (R18). -/
def verdictCount (stripes : List Stripe) (v : Verdict) : Nat :=
  stripes.countP fun t => t.verdict = v

/-- The frame verdict code: the highest rank among the stripes for a normal frame, 10 WITHDRAWN, 11 MALFORMED (R17). -/
def Frame.verdictCode (f : Frame) : Nat :=
  match f.kind with
  | .normal => (f.stripes.map fun t => t.verdict.rank).foldl max 0
  | .withdrawn => 10
  | .malformed => 11

/-- The ten category counts: all 0 for a WITHDRAWN or MALFORMED frame (R18). -/
def Frame.counts (f : Frame) : List Nat :=
  match f.kind with
  | .normal => categories.map (verdictCount f.stripes)
  | .withdrawn => categories.map fun _ => 0
  | .malformed => categories.map fun _ => 0

/-- The frame's flags byte. A withdrawn frame keeps only REF_GEOMETRY or REF_UNREADABLE, a MALFORMED one none (R18). -/
def Frame.flags (f : Frame) : Nat :=
  match f.kind with
  | .normal => bitNat f.refGeometry + 2 * bitNat f.refUnreadable + 4 * bitNat f.recordSkipped + 8 * bitNat f.unpaired
  | .withdrawn => bitNat f.refGeometry + 2 * bitNat f.refUnreadable
  | .malformed => 0

/-- The 32 bytes of a verdict area (R127, R166); an N of 65,536 is written as 65,535 (R18). -/
def Frame.verdictArea (f : Frame) : List Byte :=
  leBytes 1 f.verdictCode ++ leBytes 1 f.flags ++ leBytes 2 (min f.n 65535) ++
    f.counts.flatMap (leBytes 2) ++ leBytes 8 0

/-- Every stripe has a computed outcome on this side (R11). -/
def Frame.allComputed (f : Frame) : Bool := f.stripes.all fun t => t.computed.isSome

/-- The frame asks for a record list: RECORD reel, non-zero record address, stripe-work verdict (R11, R12). -/
def Frame.wantsRecord (f : Frame) (o : Options) : Bool :=
  o.record && f.recordAddr ≠ 0 && f.kind = .normal

/-- The values of a record list, in stripe order (R11). -/
def Frame.recordBody (f : Frame) : List Byte :=
  f.stripes.flatMap fun t => wordBytes (t.computed.getD 0)

/-! ### Runs (R128) -/

/-- A run: its first stripe index, its length, and its first stripe. -/
structure Run where
  first : Nat
  count : Nat
  stripe : Stripe
  deriving DecidableEq, Repr

/-- The stripe belongs to a run (R128). -/
def Stripe.inRun (t : Stripe) : Bool := t.verdict ≠ .clean && t.verdict ≠ .consistent

/-- Two stripes belong to the same run when they are neighbours: equal verdicts, and equal transit reasons (R128). -/
def Stripe.sameRun (t u : Stripe) : Bool := t.verdict = u.verdict && t.reason = u.reason

/-- The runs of a verdict list from stripe `i` on, `cur` being the run in progress. -/
def runsFrom : Nat → Option Run → List Stripe → List Run
  | _, cur, [] => cur.toList
  | i, none, t :: ts => runsFrom (i + 1) (if t.inRun then some ⟨i, 1, t⟩ else none) ts
  | i, some r, t :: ts =>
    if t.inRun && r.stripe.sameRun t then runsFrom (i + 1) (some { r with count := r.count + 1 }) ts
    else r :: runsFrom (i + 1) (if t.inRun then some ⟨i, 1, t⟩ else none) ts

/-- The runs of a frame, in ascending order of their first stripes (R128). -/
def Frame.runs (f : Frame) : List Run :=
  match f.kind with
  | .normal => runsFrom 0 none f.stripes
  | .withdrawn => []
  | .malformed => []

/-! ### Scores (R137 to R140) -/

/-- A sum that stops at 2^32 - 1 (R130). -/
def saturate (v : Nat) : Nat := min v Config.counterMax

/-- The damaged count b: DAMAGED, MENDABLE, MENDED, UNREADABLE and DIVERGENT (R137). -/
def damagedCount (stripes : List Stripe) : Nat :=
  stripes.countP fun t => t.verdict = .damaged || t.verdict = .mendable || t.verdict = .mended ||
    t.verdict = .unreadable || t.verdict = .divergent

/-- The checked count n = N - TRANSIT, N being the length of the verdict list (R137). -/
def checkedCount (stripes : List Stripe) : Nat :=
  stripes.length - verdictCount stripes .transit

/-- The damage density d of a frame (R138). -/
def density (b n : Nat) : Nat := b * Config.scoreMax / n

/-- The distance between two scores. -/
def distance (a b : Nat) : Nat := (a - b) + (b - a)

/-- The new S: a restart (R138), or a step of one A-th of the difference, rounded toward zero (R139). -/
def nextScore (c : Settings) (old d : Nat) : Nat :=
  if c.window ≠ 0 ∧ c.window < distance d old then d
  else if old ≤ d then old + (d - old) / c.avgSamples else old - (old - d) / c.avgSamples

/-- The reported score R of S (R140). -/
def reported (c : Settings) (score : Nat) : Nat := if score < c.quiet then 0 else score

/-- The tally after the score update of a frame's stripes: unchanged when every stripe was TRANSIT (R137). -/
def Tally.scored (t : Tally) (c : Settings) (stripes : List Stripe) : Tally :=
  if checkedCount stripes = 0 then t
  else
    let score := nextScore c t.scoreS (density (damagedCount stripes) (checkedCount stripes))
    { t with scoreS := score, scoreR := reported c score }

/-- The tally after a frame's close (R130): FRAMES_CLOSED for every frame, the rest for codes 1 to 9 only. -/
def Tally.closed (t : Tally) (c : Settings) (f : Frame) : Tally :=
  let t := { t with framesClosed := saturate (t.framesClosed + 1) }
  match f.kind with
  | .normal =>
    { t with
        damage := saturate (t.damage + damagedCount f.stripes)
        transit := saturate (t.transit + verdictCount f.stripes .transit)
        suspect := saturate (t.suspect + verdictCount f.stripes .suspect) }.scored c f.stripes
  | .withdrawn => t
  | .malformed => t

/-- The 32 bytes of a tally (R166). -/
def Tally.bytes (t : Tally) : List Byte :=
  leBytes 4 t.framesClosed ++ leBytes 4 t.damage ++ leBytes 4 t.transit ++ leBytes 4 t.suspect ++
    leBytes 4 t.longestStarve ++ leBytes 4 t.scoreS ++ leBytes 4 t.scoreR ++ leBytes 4 t.closeCause.code

end Sys2Proof.Machine
end

