-- ==== Sys2Proof/Machine/Ops.lean ====
section
/-! DEFINITION. The named operations every chapter shares: lanes, frames and links as parts of the state; the write
path, the attention causes and the findings handed over; control reads; the state write of a lane with the start and
end of a starve; FILL reads; and how a command's effect becomes a step's outcome. -/

namespace Sys2Proof.Machine

/-! ### Parts of the state -/

/-- Lane `n`'s context. -/
def State.lane (s : State) (n : LaneId) : Lane := s.lanes[n.val]

/-- The state with lane `n`'s context replaced. -/
def State.setLane (s : State) (n : LaneId) (l : Lane) : State :=
  { s with lanes := s.lanes.set n.val l n.isLt }

/-- The state with lane `n`'s context changed by `f`. -/
def State.updLane (s : State) (n : LaneId) (f : Lane → Lane) : State := s.setLane n (f (s.lane n))

/-- The twin link of pair `p`. -/
def State.link (s : State) (p : PairId) : Link := s.links[p.val]

/-- The state with the link of pair `p` replaced. -/
def State.setLink (s : State) (p : PairId) (l : Link) : State :=
  { s with links := s.links.set p.val l p.isLt }

/-- Lane `n` belongs to a linked pair (R94). -/
def State.linked (s : State) (n : LaneId) : Bool := (s.link (pairOf n)).linked

/-- Digest context `c`. -/
def State.ctx (s : State) (c : CtxId) : Option Fetch := s.ctxs[c.val]

/-- The state with digest context `c` replaced. -/
def State.setCtx (s : State) (c : CtxId) (f : Option Fetch) : State :=
  { s with ctxs := s.ctxs.set c.val f c.isLt }

/-- Trip point `t`. -/
def State.trip (s : State) (t : TripId) : TripPoint := s.trips[t.val]

/-- The state with trip point `t` replaced. -/
def State.setTrip (s : State) (t : TripId) (x : TripPoint) : State :=
  { s with trips := s.trips.set t.val x t.isLt }

/-- The frame record at a position of lane `n`'s window. -/
def State.frame? (s : State) (n : LaneId) (pos : Word) : Option Frame :=
  (s.lane n).window.find? fun f => f.pos = pos

/-- The state with that frame record changed by `g`. -/
def State.updFrame (s : State) (n : LaneId) (pos : Word) (g : Frame → Frame) : State :=
  s.updLane n fun l => { l with window := l.window.map fun f => if f.pos = pos then g f else f }

/-- A frame's closing sequence has begun (R125): it is the oldest frame of a lane with a sequence in progress. -/
def State.closingFrame (s : State) (n : LaneId) (pos : Word) : Bool :=
  (s.lane n).closing.isSome && (s.lane n).window.head?.any fun f => f.pos = pos

/-- The state with the findings unit replaced. -/
def State.setStrip (s : State) (u : FindingsUnit) : State := { s with strip := u }

/-- The state with the registers replaced. -/
def State.setRegs (s : State) (r : Registers) : State := { s with regs := r }

/-! ### The write path, attention and findings -/

/-- Something leaves through the write path, behind everything issued earlier. -/
def State.post (s : State) (p : Posted) : State := { s with out := s.out ++ [p] }

/-- One posted write. -/
def State.write (s : State) (a : Addr) (data : List Byte) : State := s.post (.write a data)

/-- New registers; when they take the attention line from inactive to active, one interrupt message is sent, unless
message-signalled interrupts are disabled (R158). -/
def State.driveRegs (s : State) (r : Registers) : State :=
  if r.line && !s.regs.line && s.msi then (s.setRegs r).post .message else s.setRegs r

/-- A cause is raised: set, and kept set when it is set already (R157). -/
def State.raise (s : State) (c : Attention) : State :=
  s.driveRegs { s.regs with attention := s.regs.attention ||| c.bit }

/-- A finding is handed to the findings unit, behind those that wait (R153). DESIGN CHOICE (log entry 47): its wait counts
from the event it reports, also when a finding that its block handed over earlier still waits. -/
def State.hand (s : State) (f : Finding) (by_ : Submitter) : State :=
  s.setStrip { s.strip with waiting := s.strip.waiting ++ [⟨f, by_, s.now⟩] }

/-- The block of a submitter. -/
def Submitter.block : Submitter → Block
  | .lane n => .lane n
  | .closeRun n => .lane n
  | .reelEnd n _ => .lane n
  | .fault n => .lane n
  | .mendEngine => .mendEngine
  | .health => .health

/-- The findings that have been handed over and not yet disposed of (R153). -/
def FindingsUnit.undisposed (u : FindingsUnit) : List Waiting := u.waiting ++ u.disposing.toList

/-- The block has handed over a finding that has not been disposed of: the block waits (R153). -/
def State.reporting (s : State) (b : Block) : Bool := s.strip.undisposed.any fun w => w.submitter.block = b

/-- The finding holds the close of the lane's frame at `pos` back: the lane handed it over and waits, or the mend engine did
for a stripe of that frame. -/
def Waiting.concerns (w : Waiting) (n : LaneId) (pos : Word) : Bool :=
  w.submitter.block = .lane n ||
    w.submitter.block = .mendEngine && w.finding.lane = BitVec.ofNat 8 n.val && w.finding.w0 = pos

/-- Evaluations that follow the lane's last close are still due (R131, R144). -/
def State.evaluating (s : State) (n : LaneId) : Bool := s.evaluations.any fun e => e.1 = n

/-! ### The findings (R156, R166): fields a kind does not use are 0 -/

/-- A lane number, code or other small number as a byte of a record. -/
def byteOf (v : Nat) : Byte := BitVec.ofNat 8 v

/-- R129. A value that is absent leaves its word free (log entry 51); `now` is the command count at which the frame's close
began. -/
def stripeRunFinding (now : Nat) (n : LaneId) (f : Frame) (r : Run) : Finding where
  kind := 1
  lane := byteOf n.val
  code := byteOf r.stripe.verdict.code
  aux := byteOf ((r.stripe.reason.elim 0 TransitReason.code) + 64 * bitNat r.stripe.expected.isSome +
    128 * bitNat r.stripe.computed.isSome)
  w0 := f.pos
  w1 := f.number
  w2 := natWord r.first
  w3 := natWord r.count
  w4 := r.stripe.expected.getD (Config.absentValue now n.val r.first 4)
  w5 := r.stripe.computed.getD (Config.absentValue now n.val r.first 5)

/-- The subcodes of a MEND_FAILED finding (R166). -/
inductive MendFailure where
  | mismatch
  | busFailed
  | cancelled
  | queueFull
  deriving DecidableEq, Repr

/-- The subcode's number. -/
def MendFailure.code : MendFailure → Nat
  | .mismatch => 1
  | .busFailed => 2
  | .cancelled => 3
  | .queueFull => 4

/-- R117: the copy value and the reference value for MISMATCH, and 0 otherwise. -/
def mendFailedFinding (lane : LaneId) (pos number : Word) (stripe : Nat) (why : MendFailure) (donorLane : LaneId)
    (donorPos copy ref : Word) : Finding where
  kind := 2
  lane := byteOf lane.val
  code := byteOf why.code
  aux := byteOf donorLane.val
  w0 := pos
  w1 := number
  w2 := natWord stripe
  w3 := donorPos
  w4 := copy
  w5 := ref

/-- R8, R9: `code` is 1 GEOMETRY or 2 UNREADABLE. -/
def referenceRejectedFinding (n : LaneId) (f : Frame) (code : Nat) : Finding :=
  ⟨3, byteOf n.val, byteOf code, 0, f.pos, f.number, 0, 0, 0, 0⟩

/-- R99, R105. -/
def frameUnpairedFinding (n : LaneId) (f : Frame) (why : SoloReason) : Finding :=
  ⟨4, byteOf n.val, byteOf why.code, 0, f.pos, f.number, 0, 0, 0, 0⟩

/-- R107: `code` is 1 ABORTED or 2 FAULTED. -/
def twinLostFinding (survivor lost : LaneId) (code : Nat) (drain taken : Word) : Finding :=
  ⟨5, byteOf survivor.val, byteOf code, byteOf lost.val, drain, taken, 0, 0, 0, 0⟩

/-- R69. -/
def stallFinding (n : LaneId) (l : Lane) : Finding :=
  ⟨6, byteOf n.val, byteOf l.cause.code, 0, natWord l.pacing.starveMs, l.drain, l.fillSeen, 0, 0, 0⟩

/-- R53. -/
def recallLateFinding (n : LaneId) (pos drain : Word) : Finding :=
  ⟨7, byteOf n.val, 0, 0, pos, drain, 0, 0, 0, 0⟩

/-- R145: `value` is the statistic's value, and the baseline is the one before the trip. -/
def tripFinding (t : TripId) (x : TripPoint) (n : LaneId) (value : Nat) (drain : Word) : Finding :=
  ⟨8, byteOf n.val, byteOf x.action.code, byteOf t.val, natWord x.source, natWord value, natWord x.baseline,
    natWord x.threshold, drain, 0⟩

/-- R50. -/
def laneFaultFinding (n : LaneId) (cause : Cause) (drain taken : Word) : Finding :=
  ⟨9, byteOf n.val, byteOf cause.code, 0, drain, taken, 0, 0, 0, 0⟩

/-- R47, R48. -/
def reelClosedFinding (n : LaneId) (cause : Cause) (drain : Word) (frames : Nat) : Finding :=
  ⟨10, byteOf n.val, byteOf cause.code, 0, drain, natWord frames, 0, 0, 0, 0⟩

/-- R155. -/
def overrunFinding (drops : Nat) : Finding := ⟨11, 0, 0, 0, natWord drops, 0, 0, 0, 0, 0⟩

/-- The 32 bytes of a finding record with its cumulative index (R166). -/
def Finding.bytes (f : Finding) (index : Word) : List Byte :=
  [f.kind, f.lane, f.code, f.aux] ++ wordBytes index ++ wordBytes f.w0 ++ wordBytes f.w1 ++ wordBytes f.w2 ++
    wordBytes f.w3 ++ wordBytes f.w4 ++ wordBytes f.w5

/-! ### Lane writes -/

/-- The state write of a lane: STATE and CAUSE as bytes 0x18 to 0x1F of its lane entry (R36, R166). -/
def State.writeState (s : State) (n : LaneId) : State :=
  s.write (Addr.plus (laneEntryAddr s.regs n) 0x18)
    (leBytes 1 (s.lane n).state.code ++ leBytes 1 (s.lane n).cause.code ++ leBytes 6 0)

/-- The acknowledgement of a command: ACK_SEQ and ACK_RESULT as one posted write (R39). -/
def State.writeAck (s : State) (n : LaneId) (seq : Word) (result : AckResult) : State :=
  s.write (Addr.plus (laneEntryAddr s.regs n) 0x10) (wordBytes seq ++ leBytes 4 result.code)

/-- The lane's DRAIN into the sheet's DRAIN field (R26). -/
def State.writeDrain (s : State) (n : LaneId) : State :=
  s.write (Addr.plus (s.lane n).sheet 0x80) (wordBytes (s.lane n).drain)

/-- The whole tally into the reel sheet (R130). -/
def State.writeTally (s : State) (n : LaneId) : State :=
  s.write (Addr.plus (s.lane n).sheet 0xC0) (s.lane n).tally.bytes

/-! ### Control reads (R79) -/

/-- A control read begins to wait for the arbiter. -/
def State.request (s : State) (kind : CtlKind) (addr : Addr) (len attempt : Nat) : State :=
  { s with
      ctl := s.ctl ++ [⟨s.nextTag, kind, addr, len, attempt, false, s.now, 0, false⟩]
      nextTag := s.nextTag + 1 }

/-- The second attempt of a read that failed once. -/
def State.retry (s : State) (r : CtlRead) : State := s.request r.kind r.addr r.len 2

/-- A control read of that kind is in flight: waiting for the arbiter, or sent. -/
def State.inFlight (s : State) (p : CtlKind → Bool) : Bool := s.ctl.any fun r => p r.kind

/-- The outstanding control read with that tag, if it has been sent. A completion for any other tag is discarded on
arrival (R35, R37, R93). -/
def State.sentRead (s : State) (tag : Nat) : Option CtlRead := s.ctl.find? fun r => r.tag = tag && r.sent

/-- The control read with that tag has been taken in. -/
def State.dropRead (s : State) (tag : Nat) : State := { s with ctl := s.ctl.filter fun r => r.tag ≠ tag }

/-- The control reads that `p` selects will be discarded on arrival (R48, R50). -/
def State.discardReads (s : State) (p : CtlKind → Bool) : State :=
  { s with ctl := s.ctl.map fun r => if p r.kind then { r with discard := true } else r }

/-- What a control read belongs to, by kind. -/
def CtlKind.isLaneEntry (n : LaneId) (k : CtlKind) : Bool := k = .laneEntry n
def CtlKind.isFill (n : LaneId) (k : CtlKind) : Bool := k = .fill n
def CtlKind.isDescriptor (n : LaneId) (k : CtlKind) : Bool := k = .descriptor n
def CtlKind.isSheet (n : LaneId) (k : CtlKind) : Bool := k = .sheetHeader n

/-- A reference list read of a frame of lane `n`. -/
def CtlKind.isRef (n : LaneId) : CtlKind → Bool
  | .refHeader m _ => m = n
  | .refBody m _ _ => m = n
  | _ => false

/-- A reference list read of the frame of lane `n` at `pos`. -/
def CtlKind.isRefOf (n : LaneId) (pos : Word) : CtlKind → Bool
  | .refHeader m p => m = n && p = pos
  | .refBody m p _ => m = n && p = pos
  | _ => false

/-- The reads of a lane that an abort or a fault discards: everything but a lane entry read (R48, R50). -/
def CtlKind.ofReel (n : LaneId) (k : CtlKind) : Bool :=
  k.isSheet n || k.isFill n || k.isDescriptor n || k.isRef n

/-! ### Lane states (R36, R66 to R70) -/

/-- The lane is in one of the running states (R44). -/
def Lane.runs (l : Lane) : Bool := l.state = .active || l.state = .starved

/-- The starve measurement captured into LONGEST_STARVE on an exit from STARVED (R70). -/
def Lane.captureStarve (l : Lane) : Lane :=
  if l.state = .starved then
    { l with tally := { l.tally with longestStarve := max l.tally.longestStarve l.pacing.starveMs } }
  else l

/-- An entry to STARVED loads the poll counter and starts the starve measurement (R66, R68). -/
def Lane.startStarve (l : Lane) : Lane :=
  { l with pacing := { l.pacing with
      poll := l.settings.pollInterval * Config.pollUnit, starveMs := 0, starveSub := 0, reported := false } }

/-- A latched FILL read is kept in this state (R27). -/
def LaneState.keepsFillLatch : LaneState → Bool
  | .opening => true
  | .active => true
  | .starved => true
  | .closed => false
  | .paused => false
  | .draining => false
  | .faulted => false

/-- The lane context after the lane enters a state with a cause. -/
def Lane.entering (l : Lane) (state : LaneState) (cause : Cause) : Lane :=
  let l := l.captureStarve
  let l := { l with state := state, cause := cause, fillLatch := l.fillLatch && state.keepsFillLatch }
  if state = .starved then l.startStarve else l

/-- A FILL read of the lane that has been asked for and not yet sent; a second attempt belongs to a read in flight. -/
def CtlRead.unmade (r : CtlRead) (n : LaneId) : Bool := r.kind.isFill n && !r.sent && r.attempt = 1

/-- A FILL read of the lane that has not been sent is not made in a state in which no FILL read is made (R27, R67). -/
def State.unmakeFill (s : State) (n : LaneId) (state : LaneState) : State :=
  { s with ctl := s.ctl.filter fun r => state.keepsFillLatch || !r.unmade n }

/-- Lane `n` enters a state with a cause, and issues its state write (R36). -/
def State.enter (s : State) (n : LaneId) (state : LaneState) (cause : Cause) : State :=
  ((s.unmakeFill n state).updLane n fun l => l.entering state cause).writeState n

/-! ### FILL reads (R27) -/

/-- The lane is in a state in which it reads FILL: ACTIVE, STARVED, or OPENING with its checks and its DRAIN write done
(R27). DESIGN CHOICE (log entry 52): a cause that arrives in OPENING after the checks but before the DRAIN write, the part being
quiesced or frozen, is not latched; R27 names only OPENING before the checks, and makes the end of the DRAIN write a cause. -/
def Lane.readsFill (l : Lane) : Bool := l.runs || l.state = .opening && l.opening = .fillRead

/-- A cause for a FILL read is effective: the lane reads FILL and has no abort in progress, there is room in its window,
and it knows of no untaken frame. -/
def Lane.wantsFill (l : Lane) : Bool :=
  l.readsFill && l.abort.isNone && l.window.length < Config.windowPlaces && l.taken = l.fillSeen

/-- The FILL read of lane `n` begins to wait for the arbiter. -/
def State.requestFill (s : State) (n : LaneId) : State :=
  s.request (.fill n) (Addr.plus (s.lane n).sheet 0x40) 4 1

/-- A cause for a FILL read: made at once, or latched behind a read in flight (R27) or while quiesced or frozen (R34). -/
def State.fillCause (s : State) (n : LaneId) : State :=
  if (s.lane n).wantsFill then
    if s.inFlight (CtlKind.isFill n) || !s.running then s.updLane n fun l => { l with fillLatch := true }
    else s.requestFill n
  else s

/-- A latched FILL read is made, exactly once, when no read is in flight and the part runs (R27, R34). -/
def State.serveFill (s : State) (n : LaneId) : State :=
  let l := s.lane n
  if l.fillLatch && l.readsFill && l.abort.isNone && !s.inFlight (CtlKind.isFill n) && s.running
  then (s.updLane n fun l => { l with fillLatch := false }).requestFill n
  else s

/-! ### From an effect to an outcome -/

/-- What a step does when its work is done: a quiesce with nothing left in flight sets STATUS.QUIESCED and raises its
cause (R161); a freeze with nothing left in flight clears STATUS.ENABLED (R160). -/
def State.finish (s : State) : State :=
  let s := if s.regs.quiesce && !s.regs.quiesced && s.idle
    then (s.setRegs { s.regs with quiesced := true }).raise .quiesced else s
  if !s.regs.enable && s.regs.enabled && s.idle then s.setRegs { s.regs with enabled := false } else s

/-- The command count goes up by one: what begins to wait in one command began to wait together (log entry 3). -/
def State.began (s : State) : State := { s with now := s.now + 1 }

/-- The outcome of a command whose effect is `f`, or which has no effect (`none`): then nothing changes at all. -/
def attempt (f : State → Option State) (s : State) : Host.Outcome State Fault Refusal :=
  match f s.began with
  | none => .next s
  | some t => .next t.finish

/-- The outcome of a command that always has its effect. -/
def always (f : State → State) (s : State) : Host.Outcome State Fault Refusal := .next (f s.began).finish

end Sys2Proof.Machine
end

