-- ==== Sys2Proof/Machine/Stream.lean ====
section
/-! DEFINITION. Reading one stripe in address order: how a digest context and the mend engine cut a stripe into
requests, keep data that arrives early, absorb bytes into the CRC accumulator, and fail (R81, R82, R83, R115, R117). -/

namespace Sys2Proof.Machine

/-- A stream at its start: a fresh accumulator, nothing sent (R81, R114). -/
def Stream.start (src : Addr) (len : Nat) : Stream where
  src := src
  len := len
  crc := crcInit
  next := 0
  absorbed := 0
  outstanding := []
  kept := []
  failed := false

/-- The length of the next request: up to the next address that is a multiple of 512, or to the end (R81). -/
def Stream.requestLen (t : Stream) : Nat :=
  min (Config.requestBytes - (t.src.toNat + t.next) % Config.requestBytes) (t.len - t.next)

/-- A request is ready to send (R81). -/
def Stream.ready (t : Stream) : Bool :=
  !t.failed && t.next < t.len && t.outstanding.length < Config.maxOutstanding

/-- The next request is sent with that tag, its timer starting now (R81). -/
def Stream.send (t : Stream) (tag clock : Nat) : Stream :=
  { t with
      next := t.next + t.requestLen
      outstanding := t.outstanding ++ [⟨tag, t.next, t.requestLen, 0, clock⟩] }

/-- The request with that tag is outstanding here. -/
def Stream.holds (t : Stream) (tag : Nat) : Bool := t.outstanding.any fun r => r.tag = tag

/-- The request with that tag stops being outstanding. -/
def dropReq (rs : List ReadReq) (tag : Nat) : List ReadReq := rs.filter fun r => r.tag ≠ tag

/-- `count` more bytes of the request with that tag have arrived; a complete request stops being outstanding (R82). -/
def countReq (rs : List ReadReq) (tag count : Nat) : List ReadReq :=
  (rs.map fun r => if r.tag = tag then { r with got := r.got + count } else r).filter fun r => r.got < r.len

/-- The data lies inside the request it answers (R83). -/
def ReadReq.matched (r : ReadReq) (off count : Nat) : Bool := 0 < count && r.off ≤ off && off + count ≤ r.off + r.len

/-- Data for the request with that tag is taken in and thrown away: its bytes are counted, and a completion that does not
match its request is an error status, with which the request has completed (R83, R120). -/
def discardReq (rs : List ReadReq) (tag off count : Nat) : List ReadReq :=
  match rs.find? fun r => r.tag = tag with
  | some r => if r.matched off count then countReq rs tag count else dropReq rs tag
  | none => rs

/-- Two byte stretches overlap. -/
def overlaps (a la b lb : Nat) : Bool := a < b + lb && b < a + la

/-- The data belongs to the request: it lies inside it, and none of its bytes has arrived before (R82, R83). -/
def Stream.fits (t : Stream) (r : ReadReq) (off count : Nat) : Bool :=
  r.matched off count && t.absorbed ≤ off && t.kept.all fun p => !overlaps p.off p.data.length off count

/-- Absorbs the kept data whose turn has come, at most `fuel` pieces; also answers the bytes absorbed, in order (R82). -/
def Stream.absorb : Nat → Stream → Stream × List Byte
  | 0, t => (t, [])
  | fuel + 1, t =>
    match t.kept.find? fun p => p.off = t.absorbed with
    | none => (t, [])
    | some p =>
      let rest := Stream.absorb fuel
        { t with
            crc := p.data.foldl crcByte t.crc
            absorbed := t.absorbed + p.data.length
            kept := t.kept.filter fun q => q.off ≠ p.off }
      (rest.1, p.data ++ rest.2)

/-- The request with that tag completes with an error or times out: the failed flag is set, kept data is thrown away,
and the request stops being outstanding (R83, R117). -/
def Stream.failReq (t : Stream) (tag : Nat) : Stream :=
  { t with failed := true, kept := [], outstanding := dropReq t.outstanding tag }

/-- Data arrives for the request with that tag; also answers the bytes absorbed by it. After a failure the data is
taken in and thrown away; data that does not match its request is an error status (R82, R83). -/
def Stream.receive (t : Stream) (tag : Nat) (addr : Addr) (data : List Byte) : Stream × List Byte :=
  match t.outstanding.find? fun r => r.tag = tag with
  | none => (t, [])
  | some r =>
    if t.failed then
      ({ t with outstanding := discardReq t.outstanding tag (addr - t.src).toNat data.length }, [])
    else if t.fits r (addr - t.src).toNat data.length then
      Stream.absorb (t.kept.length + 1)
        { t with
            outstanding := countReq t.outstanding tag data.length
            kept := t.kept ++ [⟨(addr - t.src).toNat, data⟩] }
    else (t.failReq tag, [])

/-- The stream has ended with a value: every byte absorbed, no failure (R82). -/
def Stream.value? (t : Stream) : Option Word :=
  if !t.failed && t.len ≤ t.absorbed then some (~~~t.crc) else none

/-- The stream has ended failed: nothing is outstanding any longer (R83). -/
def Stream.drained (t : Stream) : Bool := t.failed && t.outstanding.isEmpty

end Sys2Proof.Machine
end

