-- ==== Sys2Proof/Machine/Board.lean ====
section
/-! DEFINITION. The stripe board: entries and their lane orders (R73 to R75), what a fetch end makes of an entry (R84
to R87), settling (R88, R89, R101), holding, the vote and the re-read of a twin disagreement (R102 to R104), the places
of the mend queue and the vote wait list (R112, R113), and stopping work (R90, R91). -/

namespace Sys2Proof.Machine

/-! ### Entries and lane orders -/

/-- The entry is the one for that stripe; no two entries have the same lane, position and stripe index (R73). -/
def Entry.isAt (e : Entry) (n : LaneId) (pos : Word) (i : Nat) : Bool := e.lane = n && e.pos = pos && e.stripe = i

/-- The entry belongs to that frame. -/
def Entry.ofFrame (e : Entry) (n : LaneId) (pos : Word) : Bool := e.lane = n && e.pos = pos

/-- The entry for a stripe. -/
def State.entry? (s : State) (n : LaneId) (pos : Word) (i : Nat) : Option Entry :=
  s.board.find? fun e => e.isAt n pos i

/-- A lane's entries in lane order (R75). -/
def State.laneOrder (s : State) (n : LaneId) : List Entry := s.board.filter fun e => e.lane = n

/-- A lane's quota count (R73). -/
def State.quotaCount (s : State) (n : LaneId) : Nat := s.board.countP fun e => e.lane = n

/-- A frame's board count (R78). -/
def State.boardCount (s : State) (n : LaneId) (pos : Word) : Nat := s.board.countP fun e => e.ofFrame n pos

/-- A lane's head entry: the first of its lane order that is QUEUED (R75). -/
def State.headEntry (s : State) (n : LaneId) : Option Entry :=
  s.board.find? fun e => e.lane = n && e.state = .queued

/-- The state with the entry for a stripe changed by `g`. -/
def State.updEntry (s : State) (n : LaneId) (pos : Word) (i : Nat) (g : Entry → Entry) : State :=
  { s with board := s.board.map fun e => if e.isAt n pos i then g e else e }

/-- The entry for a stripe leaves the board and its lane order. -/
def State.removeEntry (s : State) (n : LaneId) (pos : Word) (i : Nat) : State :=
  { s with board := s.board.filter fun e => !e.isAt n pos i }

/-- A new entry joins the tail of its lane's order (R75). -/
def State.addEntry (s : State) (e : Entry) : State := { s with board := s.board ++ [e] }

/-- The entry for a stripe is re-queued at the head of its lane order with a purpose and a first value (R75). -/
def State.requeue (s : State) (n : LaneId) (pos : Word) (i : Nat) (purpose : Purpose) (first : Option Word) : State :=
  match s.entry? n pos i with
  | none => s
  | some e =>
    { s with board :=
        { e with purpose := purpose, first := first, state := .queued, outcome := none } ::
          s.board.filter fun e => !e.isAt n pos i }

/-! ### Places of the mend queue (chapter 7) -/

/-- Places reserved for stripes on the vote wait list. -/
def State.reservedPlaces (s : State) : Nat := (s.votes.map VoteWait.got).sum

/-- Places that neither hold a request nor are reserved (R113). -/
def State.freePlaces (s : State) : Nat := Config.mendPlaces - (s.mender.queue.length + s.reservedPlaces)

/-- A mend request names the frame, as donor or as recipient. -/
def MendReq.names (q : MendReq) (n : LaneId) (pos : Word) : Bool :=
  q.donorLane = n && q.donorPos = pos || q.lane = n && q.pos = pos

/-- A mend request names a frame of the lane. -/
def MendReq.namesLane (q : MendReq) (n : LaneId) : Bool := q.donorLane = n || q.lane = n

/-- A frame's pending-mend count: the requests in the queue that name it (R112). -/
def State.pendingMends (s : State) (n : LaneId) (pos : Word) : Nat := s.mender.queue.countP fun q => q.names n pos

/-- The state with the mend queue replaced. -/
def State.setQueue (s : State) (q : List MendReq) : State := { s with mender := { s.mender with queue := q } }

/-! ### Stripe verdict lists -/

/-- The reference value of stripe `i`, when the frame has a reference (R7, R74). -/
def Frame.refValue (f : Frame) (i : Nat) : Option Word :=
  if f.ref = .present then f.reservation.bind fun vs => vs[i]? else none

/-- The reference outcome is settled (R10). -/
def Frame.refSettled (f : Frame) : Bool := f.ref = .present || f.ref = .absent

/-- The frame record with stripe `i` changed by `g`. -/
def Frame.updStripe (f : Frame) (i : Nat) (g : Stripe → Stripe) : Frame := { f with stripes := f.stripes.modify i g }

/-- The frame record with stripe `i` settled from this side's outcome and the twin's (R15). -/
def Frame.settle (f : Frame) (i : Nat) (x : SideOutcome) (y : Option SideOutcome) : Frame :=
  f.updStripe i fun _ => settledStripe (f.refValue i) x y

/-- The verdict of a stripe of the frame. -/
def Frame.verdictAt (f : Frame) (i : Nat) : Verdict := (f.stripes[i]?).elim .unsettled Stripe.verdict

/-- A frame's count of unsettled stripes (R15). -/
def Frame.unsettled (f : Frame) : Nat := verdictCount f.stripes .unsettled

/-- The stripe lies in an unreadable range and is not settled. -/
def Stripe.awaiting (t : Stripe) : Bool := t.verdict = .unsettled && t.outcome = some .unreadable

/-- Stripe `i` lies in an unreadable range and is not settled. -/
def Frame.awaitingAt (f : Frame) (i : Nat) : Bool := f.stripes[i]?.any Stripe.awaiting

/-- A stripe is settled in its frame record (R15). -/
def State.settleAt (s : State) (n : LaneId) (pos : Word) (i : Nat) (x : SideOutcome) (y : Option SideOutcome) : State :=
  s.updFrame n pos fun f => f.settle i x y

/-! ### Mend requests (R112) -/

/-- A stripe of the frame asks for a mend: it is MENDABLE, its reel has MEND set, and the frame has a mend address. -/
def State.wantsMend (s : State) (n : LaneId) (pos : Word) (i : Nat) : Bool :=
  (s.lane n).settings.options.mend &&
    (s.frame? n pos).any fun f => f.verdictAt i = .mendable && f.mendAddr ≠ 0

/-- The mend request of a recipient's stripe from its donor (R112). -/
def mendRequest (e : Nat) (n : LaneId) (f : Frame) (i : Nat) (donor : Frame) : MendReq where
  donorLane := twin n
  donorPos := donor.pos
  lane := n
  pos := f.pos
  stripe := i
  src := Addr.plus donor.buffer (stripeStart e i)
  len := stripeLen e f.length i
  dst := Addr.plus f.mendAddr (stripeStart e i)
  ref := (f.refValue i).getD 0

/-- The request for stripe `i` of the frame at `pos`, with the twin's frame at `donorPos` as donor, joins the tail of
the mend queue. Whoever makes a request has a place for it (R113), so the test for one passes in every state a run
reaches. -/
def State.placeMend (s : State) (n : LaneId) (pos : Word) (i : Nat) (donorPos : Word) : State :=
  match s.frame? n pos, s.frame? (twin n) donorPos with
  | some f, some d =>
    if 0 < s.freePlaces then s.setQueue (s.mender.queue ++ [mendRequest (s.lane n).settings.exponent n f i d]) else s
  | _, _ => s

/-- The request joins the queue when the stripe asks for one. -/
def State.placeMendIf (s : State) (n : LaneId) (pos : Word) (i : Nat) (donorPos : Word) : State :=
  if s.wantsMend n pos i then s.placeMend n pos i donorPos else s

/-! ### The vote (R103) -/

/-- The outcome a HELD entry keeps. -/
def State.heldOutcome (s : State) (n : LaneId) (pos : Word) (i : Nat) : Option SideOutcome :=
  (s.entry? n pos i).bind fun e => if e.state = .held then e.outcome else none

/-- The vote of a paired stripe: both sides settled, both entries removed, and the mend requests placed, the one whose
recipient is the leader first (R103, R112). -/
def State.carryVote (s : State) (p : PairId) (lp fp : Word) (i : Nat) : State :=
  match s.heldOutcome (leader p) lp i, s.heldOutcome (follower p) fp i with
  | some x, some y =>
    ((((s.settleAt (leader p) lp i x (some y)).settleAt (follower p) fp i y (some x)).removeEntry (leader p) lp i
      |>.removeEntry (follower p) fp i).placeMendIf (leader p) lp i fp).placeMendIf (follower p) fp i lp
  | _, _ => s

/-- A side of the vote needs a place of the mend queue. -/
def State.sideNeeds (s : State) (n : LaneId) (pos : Word) (i : Nat) (x y : SideOutcome) : Nat :=
  bitNat ((s.lane n).settings.options.mend &&
    (s.frame? n pos).any fun f => judge (f.refValue i) x (some y) = .mendable && f.mendAddr ≠ 0)

/-- The stripe at the front of the vote wait list is given a place that stopped being held; its vote is carried out as
soon as it holds all it needs. With an empty list the place is free (R113). -/
def State.givePlace (s : State) : State :=
  match s.votes with
  | [] => s
  | v :: rest =>
    if s.freePlaces = 0 then s
    else if v.need ≤ v.got + 1 then ({ s with votes := rest }).carryVote v.pair v.leaderPos v.followerPos v.stripe
    else { s with votes := { v with got := v.got + 1 } :: rest }

/-- `count` places are handed on, one at a time. -/
def State.givePlaces (s : State) : Nat → State
  | 0 => s
  | count + 1 => s.givePlace.givePlaces count

/-- The stripes that `p` selects leave the vote wait list without a vote; their places are handed on (R113). -/
def State.dropVotes (s : State) (p : VoteWait → Bool) : State :=
  ({ s with votes := s.votes.filter fun v => !p v }).givePlaces (((s.votes.filter p).map VoteWait.got).sum)

/-- Neither frame has a reference, and either reel has CONFIRM (R104). -/
def State.mayReread (s : State) (p : PairId) (lp fp : Word) : Bool :=
  ((s.lane (leader p)).settings.options.confirm || (s.lane (follower p)).settings.options.confirm) &&
    (s.frame? (leader p) lp).any (fun f => f.ref = .absent) &&
    (s.frame? (follower p) fp).any fun f => f.ref = .absent

/-- The sides are computed and unequal (R104). -/
def disagree (x y : SideOutcome) : Bool :=
  match x, y with
  | .computed v, .computed w => v ≠ w
  | _, _ => false

/-- The vote of a stripe both of whose entries are HELD: first the re-read of R104 where it is due; else the vote at
once, or the vote wait list with whatever places are free reserved for it (R103, R113). -/
def State.tryVote (s : State) (p : PairId) (lp fp : Word) (i : Nat) : State :=
  match s.entry? (leader p) lp i, s.entry? (follower p) fp i with
  | some a, some b =>
    match s.heldOutcome (leader p) lp i, s.heldOutcome (follower p) fp i with
    | some x, some y =>
      if disagree x y && s.mayReread p lp fp && a.purpose ≠ .confirm && b.purpose ≠ .confirm then
        (s.requeue (leader p) lp i .confirm a.current).requeue (follower p) fp i .confirm b.current
      else
        let need := s.sideNeeds (leader p) lp i x y + s.sideNeeds (follower p) fp i y x
        if need = 0 || need ≤ s.freePlaces && s.votes.isEmpty then s.carryVote p lp fp i
        else { s with votes := s.votes ++ [⟨p, lp, fp, i, need, s.freePlaces⟩] }
    | _, _ => s
  | _, _ => s

/-! ### Settling (R88, R89, R101) -/

/-- The unreadable side of a one-sided stripe, settled when the readable side is (R101): `n` and `pos` name the
unreadable side's frame, `x` is the readable side's outcome and `donorPos` its frame. -/
def State.settleOther (s : State) (n : LaneId) (pos : Word) (i : Nat) (x : SideOutcome) (donorPos : Word) : State :=
  match s.frame? n pos with
  | none => s
  | some f =>
    if f.kind = .normal && f.awaitingAt i then
      let t := s.settleAt n pos i .unreadable (some x)
      if t.wantsMend n pos i then
        if 0 < t.freePlaces then t.placeMend n pos i donorPos
        else t.hand (mendFailedFinding n pos f.number i .queueFull (twin n) donorPos 0 0) (.lane n)
      else t
    else s

/-- A solo entry is settled and removed (R89); the unreadable side of a one-sided paired stripe with it (R101). -/
def State.settleSolo (s : State) (n : LaneId) (pos : Word) (i : Nat) (x : SideOutcome) : State :=
  let t := (s.settleAt n pos i x none).removeEntry n pos i
  match (s.frame? n pos).map Frame.pairing with
  | some (.paired q) => t.settleOther (twin n) q i x pos
  | _ => t

/-- A side has its outcome: a solo entry is settled, a paired one becomes HELD and the vote follows when its partner is
HELD as well (R88, R102). -/
def State.giveOutcome (s : State) (n : LaneId) (pos : Word) (i : Nat) (x : SideOutcome) : State :=
  match (s.entry? n pos i).bind Entry.partner with
  | none => s.settleSolo n pos i x
  | some q =>
    let t := s.updEntry n pos i fun e => { e with
      state := .held
      outcome := some x
      current := x.value? }
    if isFollower n then t.tryVote (pairOf n) q pos i else t.tryVote (pairOf n) pos q i

/-- The first value of the partner entry (R104). -/
def State.partnerFirst (s : State) (e : Entry) : Option Word :=
  e.partner.bind fun q => (s.entry? (twin e.lane) q e.stripe).bind Entry.first

/-- The outcome of a CONFIRM fetch that ended with a value: R87 against the reference, R104 without one. -/
def confirmOutcome (ref first other : Option Word) (v : Word) : SideOutcome :=
  match ref with
  | some r => if v = r then .transit .transient else if some v = first then .computed v else .transit .unstable
  | none => if some v = first then .computed v else if some v = other then .transit .transient else .transit .unstable

/-- A FINISHED entry: a confirm read becomes due, or the side has its outcome (R86, R87, R104). -/
def State.handleFinished (s : State) (e : Entry) (v : Word) : State :=
  let ref := (s.frame? e.lane e.pos).bind fun f => f.refValue e.stripe
  match e.purpose with
  | .confirm => s.giveOutcome e.lane e.pos e.stripe (confirmOutcome ref e.first (s.partnerFirst e) v)
  | _ =>
    if (s.lane e.lane).settings.options.confirm && ref.any (fun r => v ≠ r) then
      s.requeue e.lane e.pos e.stripe .confirm (some v)
    else s.giveOutcome e.lane e.pos e.stripe (.computed v)

/-- A FAILED entry: a retry becomes due, or the side has its outcome (R85). -/
def State.handleFailed (s : State) (e : Entry) : State :=
  match e.purpose with
  | .check => s.requeue e.lane e.pos e.stripe .retry none
  | .retry => s.giveOutcome e.lane e.pos e.stripe (.transit .busFailed)
  | .confirm => s.giveOutcome e.lane e.pos e.stripe (.computed (e.first.getD 0))

/-- A fetch ends, with a value or failed: an entry marked for discard is removed, any other becomes FINISHED or FAILED
and is handled (R84, R90). -/
def State.fetchEnded (s : State) (n : LaneId) (pos : Word) (i : Nat) (value : Option Word) : State :=
  match s.entry? n pos i with
  | none => s
  | some e =>
    if e.discard then s.removeEntry n pos i
    else
      match value with
      | some v => (s.updEntry n pos i fun e => { e with state := .finished, current := some v }).handleFinished e v
      | none => (s.updEntry n pos i fun e => { e with state := .failed, current := none }).handleFailed e

/-! ### Unreadable stripes (R15, R89, R101) -/

/-- The frame record with its waiting unreadable stripes settled without a twin. -/
def Frame.settleUnreadable (f : Frame) : Frame :=
  { f with stripes := f.stripes.mapIdx fun i t =>
      if t.awaiting then settledStripe (f.refValue i) .unreadable none else t }

/-- The frame is judged solo. -/
def Frame.isSolo (f : Frame) : Bool :=
  match f.pairing with
  | .solo _ => true
  | .pending => false
  | .paired _ => false

/-- A solo frame's unreadable stripes settle once its reference outcome is settled (R89). -/
def State.settleUnreadable (s : State) (n : LaneId) (pos : Word) : State :=
  s.updFrame n pos fun f => if f.kind = .normal && f.isSolo && f.refSettled then f.settleUnreadable else f

/-- The frame record with the stripes unreadable on both sides settled, `other` being the twin's frame (R101). -/
def Frame.settleBoth (f other : Frame) : Frame :=
  { f with stripes := f.stripes.mapIdx fun i t =>
      if t.awaiting && other.stripes[i]?.any (fun u => u.outcome = some .unreadable)
      then settledStripe (f.refValue i) .unreadable (some .unreadable) else t }

/-- The stripes of a paired item unreadable on both sides settle once both reference outcomes are settled (R101). -/
def State.settleBothUnreadable (s : State) (p : PairId) (lp fp : Word) : State :=
  match s.frame? (leader p) lp, s.frame? (follower p) fp with
  | some a, some b =>
    if a.kind = .normal && b.kind = .normal && a.refSettled && b.refSettled then
      (s.updFrame (leader p) lp fun f => f.settleBoth b).updFrame (follower p) fp fun f => f.settleBoth a
    else s
  | _, _ => s

/-- What follows when a frame's reference outcome is settled, or its pairing decided. -/
def State.refOutcomeSettled (s : State) (n : LaneId) (pos : Word) : State :=
  match (s.frame? n pos).map Frame.pairing with
  | some (.paired q) =>
    if isFollower n then s.settleBothUnreadable (pairOf n) q pos
    else s.settleBothUnreadable (pairOf n) pos q
  | _ => s.settleUnreadable n pos

/-! ### Stopping work (R90, R91) -/

/-- What stopping makes of an entry: a FETCHING one is marked for discard, any other is removed. -/
def Entry.stopped (e : Entry) : Option Entry :=
  if e.state = .fetching then some { e with discard := true } else none

/-- The entries that `p` selects stop: QUEUED and HELD ones are removed, FETCHING ones are marked for discard. -/
def State.stopEntries (s : State) (p : Entry → Bool) : State :=
  { s with board := s.board.filterMap (fun e => if p e then e.stopped else some e) }

/-- A HELD entry is settled as a solo stripe. -/
def State.settleHeld (s : State) (e : Entry) : State :=
  match e.outcome with
  | some x => s.settleSolo e.lane e.pos e.stripe x
  | none => s

/-- The state with the partners of a frame's entries cleared. -/
def State.clearPartners (s : State) (n : LaneId) (pos : Word) : State :=
  { s with board := s.board.map fun e => if e.ofFrame n pos then { e with partner := none } else e }

/-- The entries of a frame go on as solo entries: their partners are cleared, and HELD ones are settled at once
(R105, R106). -/
def State.unpairEntries (s : State) (n : LaneId) (pos : Word) : State :=
  (s.board.filter fun e => e.ofFrame n pos && e.state = .held).foldl State.settleHeld (s.clearPartners n pos)

end Sys2Proof.Machine
end

