-- ==== Sys2Proof/Machine/Mend.lean ====
section
/-! DEFINITION. The mend engine's shared operations: the end of a request (R118), the copy of blocks into the mend
buffer (R115), the end of an attempt (R116, R117), and cancellation (R119, R120). -/

namespace Sys2Proof.Machine

/-- The state with the mend engine's state replaced. -/
def State.setEngine (s : State) (e : Engine) : State := { s with mender := { s.mender with engine := e } }

/-- The active request: the oldest of the queue while the engine is not IDLE (R114). -/
def State.activeMend (s : State) : Option MendReq :=
  if s.mender.engine = .idle then none else s.mender.queue.head?

/-- The frame number of a frame in a window. -/
def State.frameNumber (s : State) (n : LaneId) (pos : Word) : Word := ((s.frame? n pos).map Frame.number).getD 0

/-- The MEND_FAILED finding of a request (R117). -/
def State.mendFailed (s : State) (q : MendReq) (why : MendFailure) (copy ref : Word) : Finding :=
  mendFailedFinding q.lane q.pos (s.frameNumber q.lane q.pos) q.stripe why q.donorLane q.donorPos copy ref

/-- The active request ends: it leaves the queue, its place is handed on, and the engine is IDLE (R118). -/
def State.endActive (s : State) : State := ((s.setQueue s.mender.queue.tail).setEngine .idle).givePlace

/-- The request is the one for that recipient stripe. -/
def MendReq.same (q r : MendReq) : Bool := q.lane = r.lane && q.pos = r.pos && q.stripe = r.stripe

/-- A request that is not active ends: it leaves the queue and its place is handed on (R118, R119). -/
def State.endQueued (s : State) (q : MendReq) : State :=
  (s.setQueue (s.mender.queue.filter fun r => !r.same q)).givePlace

/-- The bytes absorbed join the block being absorbed, which began `block.length` bytes before offset `off`; each block
is written to the mend buffer when its last byte has been absorbed (R115). Answers the bytes of the unfinished block. -/
def copyBytes (q : MendReq) : State → Nat → List Byte → List Byte → State × List Byte
  | s, _, block, [] => (s, block)
  | s, off, block, b :: bs =>
    if (q.src.toNat + off + 1) % Config.requestBytes = 0 || off + 1 = q.len then
      copyBytes q (s.write (Addr.plus q.dst (off - block.length)) (block ++ [b])) (off + 1) [] bs
    else copyBytes q s (off + 1) (block ++ [b]) bs

/-- The copy at the start of an attempt (R114, R117). -/
def Copy.start (q : MendReq) (attempt : Nat) : Copy := ⟨attempt, Stream.start q.src q.len, []⟩

/-- An attempt ended with a copy value: MENDED when it equals the reference value, else a MISMATCH (R116). -/
def State.mendCompared (s : State) (q : MendReq) (v : Word) : State :=
  if v = q.ref then
    (s.updFrame q.lane q.pos fun f => f.updStripe q.stripe fun t => { t with verdict := .mended }).endActive
  else (s.hand (s.mendFailed q .mismatch v q.ref) .mendEngine).endActive

/-- The copy after something of it has arrived or failed: the attempt may have ended (R116, R117). -/
def State.mendAdvanced (s : State) (q : MendReq) (c : Copy) : State :=
  match c.stream.value? with
  | some v => s.mendCompared q v
  | none =>
    if c.stream.drained then
      if c.attempt = 1 then s.setEngine (.copying (Copy.start q 2))
      else (s.hand (s.mendFailed q .busFailed 0 0) .mendEngine).endActive
    else s.setEngine (.copying c)

/-- A stopping engine ends its request when nothing is outstanding any longer (R120). -/
def State.mendStopped (s : State) (outstanding : List ReadReq) : State :=
  if outstanding.isEmpty then s.endActive else s.setEngine (.stopping outstanding)

/-- The read requests the engine has sent that are outstanding. -/
def Engine.outstanding : Engine → List ReadReq
  | .idle => []
  | .copying c => c.stream.outstanding
  | .stopping rs => rs

/-- A cancelled request's finding, handed by the recipient lane only when the recipient's frame will still close with its real
verdict (R119): not for a request that `silent` selects, and not while a fault condition of the recipient lane waits for its
closing sequence, the last close of the reel, to end (R50, R134). -/
def State.cancelFinding (s : State) (q : MendReq) (silent : MendReq → Bool) : State :=
  if silent q || (s.lane q.lane).faultDue.isSome then s else s.hand (s.mendFailed q .cancelled 0 0) (.lane q.lane)

/-- The active request is cancelled: the engine enters STOPPING (R120). Nothing changes when it is stopping already. -/
def State.cancelActive (s : State) (p silent : MendReq → Bool) : State :=
  match s.mender.engine, s.mender.queue.head? with
  | .copying c, some q =>
    if p q then (s.cancelFinding q silent).mendStopped c.stream.outstanding else s
  | _, _ => s

/-- The requests that wait behind the active one, or all of them while the engine is IDLE. -/
def State.waitingMends (s : State) : List MendReq :=
  if s.mender.engine = .idle then s.mender.queue else s.mender.queue.tail

/-- The requests that `p` selects are cancelled (R119): those not active are removed at once, the active one is
stopped. DESIGN CHOICE (log entry 43): their findings are handed over in queue order, the active request's last. -/
def State.cancelMends (s : State) (p silent : MendReq → Bool) : State :=
  ((s.waitingMends.filter p).foldl (fun t q => (t.cancelFinding q silent).endQueued q) s).cancelActive p silent

end Sys2Proof.Machine
end

