-- ==== Sys2Proof/Machine/Twin.lean ====
section
/-! DEFINITION. The twin reconciler (chapter 6): pairing heads and pairing decisions (R97, R98), the pair issue queue
(R100), the moves into and out of TWIN_WAIT (R98), what a withdrawn frame does to its partner (R105), and the loss of a
link (R106, R107). -/

namespace Sys2Proof.Machine

/-! ### Pairing heads and solo frames -/

/-- The pairing head of a lane: the oldest frame of its window that is PENDING (R97). -/
def Lane.pairingHead (l : Lane) : Option Frame :=
  l.window.find? fun f => f.kind = .normal && f.pairing = .pending

/-- The frame record with that pairing status; the UNPAIRED flag is set by the reasons that write a FRAME_UNPAIRED
finding (R99, R105). -/
def Frame.solo (f : Frame) (why : SoloReason) : Frame :=
  { f with
      pairing := .solo why
      unpaired := f.unpaired || why.code ≠ 0 }

/-- A frame becomes SOLO: its flag, its FRAME_UNPAIRED finding (R99), and its unreadable stripes, which then wait for no
twin (R89). -/
def State.goSolo (s : State) (n : LaneId) (pos : Word) (why : SoloReason) : State :=
  match s.frame? n pos with
  | none => s
  | some f =>
    let t := s.updFrame n pos fun g => g.solo why
    (if why.code = 0 then t else t.hand (frameUnpairedFinding n f why) (.lane n)).settleUnreadable n pos

/-! ### TWIN_WAIT (R98) -/

/-- The lane is STARVED with cause TWIN_WAIT. -/
def Lane.waits (l : Lane) : Bool := l.state = .starved && l.cause = .twinWait

/-- A lane in TWIN_WAIT enters ACTIVE. -/
def State.leaveWait (s : State) (n : LaneId) : State :=
  if (s.lane n).waits then s.enter n .active .noCause else s

/-- Every frame of the window before the pairing head has had all its stripes issued. -/
def Lane.issuedBeforeHead (l : Lane) : Bool :=
  (l.window.takeWhile fun f => !(f.kind = .normal && f.pairing = .pending)).all fun f =>
    f.kind ≠ .normal || f.n ≤ f.cursor

/-- A lane's head waits for the other side, which has none, has taken every frame it knows of and has no take in
flight: the lane enters TWIN_WAIT when it has nothing of its own left to issue (R98). -/
def State.enterWait (s : State) (n : LaneId) : State :=
  let l := s.lane n
  let other := s.lane (twin n)
  if s.linked n && l.state = .active && l.abort.isNone && l.pairingHead.isSome && other.pairingHead.isNone &&
      other.state ≠ .draining && other.taken = other.fillSeen &&
      !s.inFlight (CtlKind.isDescriptor (twin n)) && l.issuedBeforeHead
  then s.enter n .starved .twinWait else s

/-! ### The pair issue queue (R100) -/

/-- An item joins the pair issue queue. -/
def State.enqueue (s : State) (p : PairId) (i : PairItem) : State :=
  s.setLink p { s.link p with queue := (s.link p).queue ++ [i] }

/-- The frame has stripes left to issue. -/
def State.issues (s : State) (n : LaneId) (pos : Word) : Bool :=
  (s.frame? n pos).any fun f => f.kind = .normal && f.cursor < f.n

/-- The item still has stripes to issue. -/
def State.itemLive (s : State) (p : PairId) : PairItem → Bool
  | .both lp fp => s.issues (leader p) lp || s.issues (follower p) fp
  | .leaderSolo pos => s.issues (leader p) pos
  | .followerSolo pos => s.issues (follower p) pos

/-- The items whose stripes have all been issued, or whose frames are withdrawn or closed, leave the queue. -/
def State.prune (s : State) (p : PairId) : State :=
  s.setLink p { s.link p with queue := (s.link p).queue.filter (s.itemLive p) }

/-! ### Pairing decisions (R97, R98) -/

/-- The head of one side goes SOLO with its item; a wait for its decision ends. -/
def State.decideSolo (s : State) (p : PairId) (n : LaneId) (pos : Word) (why : SoloReason) : State :=
  ((s.goSolo n pos why).enqueue p (if n = leader p then .leaderSolo pos else .followerSolo pos)).leaveWait n

/-- Two heads with one number and one length become PAIRED. -/
def State.decidePaired (s : State) (p : PairId) (a b : Frame) : State :=
  ((((s.updFrame (leader p) a.pos fun f => { f with pairing := .paired b.pos }).updFrame (follower p) b.pos
    fun f => { f with pairing := .paired a.pos }).enqueue p (.both a.pos b.pos)).settleBothUnreadable p a.pos b.pos
    |>.leaveWait (leader p)).leaveWait (follower p)

/-- The decision table of R97 for the leader's head and the follower's. -/
def State.decideHeads (s : State) (p : PairId) (a b : Frame) : State :=
  if a.number = b.number then
    if a.length = b.length then s.decidePaired p a b
    else (s.decideSolo p (leader p) a.pos .length).decideSolo p (follower p) b.pos .length
  else if a.number.toNat < b.number.toNat then s.decideSolo p (leader p) a.pos .missing
  else s.decideSolo p (follower p) b.pos .missing

/-- The next decision that is due: both sides have a head, or one has and the other is DRAINING. -/
def State.decideNext (s : State) (p : PairId) : Option State :=
  match (s.lane (leader p)).pairingHead, (s.lane (follower p)).pairingHead with
  | some a, some b => some (s.decideHeads p a b)
  | some a, none =>
    if (s.lane (follower p)).state = .draining then some (s.decideSolo p (leader p) a.pos .missing) else none
  | none, some b =>
    if (s.lane (leader p)).state = .draining then some (s.decideSolo p (follower p) b.pos .missing) else none
  | none, none => none

/-- The decisions that are due, one after another; at most 8 frames can be undecided. -/
def State.decideAll : Nat → PairId → State → State
  | 0, _, s => s
  | fuel + 1, p, s =>
    match s.decideNext p with
    | none => s
    | some t => State.decideAll fuel p t

/-- The reconciler's work on a pair after anything that bears on it: decisions, the queue, TWIN_WAIT. -/
def State.reconcile (s : State) (p : PairId) : State :=
  if (s.link p).linked then
    (((s.decideAll 8 p).prune p).enterWait (leader p)).enterWait (follower p)
  else s

/-! ### The withdrawal of a paired frame (R105) -/

/-- The paired item of a frame withdrawn on lane `n` becomes a solo item of the partner's lane, in its place. -/
def PairItem.withoutFrame (i : PairItem) (n : LaneId) (pos : Word) : PairItem :=
  match i with
  | .both lp fp =>
    if isFollower n then (if fp = pos then .leaderSolo lp else i)
    else (if lp = pos then .followerSolo fp else i)
  | .leaderSolo _ => i
  | .followerSolo _ => i

/-- The partner of a PAIRED frame that is withdrawn on lane `n` goes solo with reason WITHDRAWN: its HELD entries are
settled, its other entries lose their partners, its unreadable stripes settle. A partner whose close has begun is
fixed, and a partner that has closed is gone (R125). -/
def State.partnerWithdrawn (s : State) (n : LaneId) (pos q : Word) : State :=
  let p := pairOf n
  let t := s.setLink p { s.link p with queue := (s.link p).queue.map fun i => i.withoutFrame n pos }
  if t.closingFrame (twin n) q then t else (t.goSolo (twin n) q .withdrawn).unpairEntries (twin n) q

/-! ### The loss of a link (R106, R107) -/

/-- The frame was awaiting or sharing the twin's evidence. -/
def Frame.twinned (f : Frame) : Bool :=
  match f.pairing with
  | .pending => true
  | .paired _ => true
  | .solo _ => false

/-- The survivor's PENDING and PAIRED frames become SOLO with reason LOST. -/
def Lane.loseTwin (l : Lane) : Lane :=
  { l with window := l.window.map fun f => if f.twinned then f.solo .lost else f }

/-- The state with the partners of a lane's entries cleared. -/
def State.clearLanePartners (s : State) (n : LaneId) : State :=
  { s with board := s.board.map fun e => if e.lane = n then { e with partner := none } else e }

/-- A lane's HELD entries are settled as solo stripes. -/
def State.settleLaneHeld (s : State) (n : LaneId) : State :=
  (s.board.filter fun e => e.lane = n && e.state = .held).foldl State.settleHeld s

/-- The unreadable stripes of a lane's solo frames settle. -/
def State.settleLaneUnreadable (s : State) (n : LaneId) : State :=
  (s.lane n).window.foldl (fun t f => t.settleUnreadable n f.pos) s

/-- The TWIN_LOST finding of the survivor `m`, the link being lost with lane `n`. -/
def State.twinLost (s : State) (n m : LaneId) (code : Option Nat) : State :=
  match code with
  | some c => s.hand (twinLostFinding m n c (s.lane m).drain (s.lane m).taken) (.lane m)
  | none => s

/-- The link of lane `n`'s pair is lost with lane `n`; `code` is the reason of the TWIN_LOST finding, 1 ABORTED or
2 FAULTED, or none when lane `n` entered CLOSED at the end of its drain (R107). -/
def State.linkLoss (s : State) (n : LaneId) (code : Option Nat) : State :=
  if s.linked n then
    let m := twin n
    let t := (s.setLink (pairOf n) Link.reset).twinLost n m code
    let t := t.dropVotes fun v => v.pair = pairOf n
    let t := ((t.updLane m Lane.loseTwin).clearLanePartners m).clearLanePartners n
    ((t.settleLaneHeld m).settleLaneUnreadable m).leaveWait m
  else s

end Sys2Proof.Machine
end

