-- ==== Sys2Proof/Machine/Lanes.lean ====
section
/-! DEFINITION. What ends or stops a lane's work, whoever asks for it: entering CLOSED, the end of a drained reel (R47),
the abort sequences (R48, R49), a fault (R50), the withdrawal of a window frame (R54), and a pause of a lane or a linked
pair (R44, R109, R146). -/

namespace Sys2Proof.Machine

/-! ### Entering CLOSED -/

/-- The lane enters CLOSED with its state write: its withdraw list is emptied, its permit cleared (R55, R63), its link
lost without a finding (R94, R107), and what a FILL read still in flight brings belongs to no later reel (R28). DEDUCED (log
entry 48): its counts stay until the next reel's sheet is cached, so an opening that faults before that still holds them. -/
def State.enterClosed (s : State) (n : LaneId) (cause : Cause) : State :=
  (((s.enter n .closed cause).updLane n fun l => { l with
      withdraws := []
      opening := .idle
      drainOnFill := false
      pauseOnFill := false
      pacing := { l.pacing with permit := false } }).discardReads (CtlKind.isFill n)).linkLoss n none

/-- The tally with its CLOSE_CAUSE, its write and the REEL_CLOSED finding: the steps of R47 and R48 before the state
write, which follows when the finding has been disposed of (R153). -/
def State.beginEnd (s : State) (n : LaneId) (cause : Cause) : State :=
  let t := (s.updLane n fun l => { l with
      ending := some cause
      tally := { l.tally with closeCause := cause } }).writeTally n
  t.hand (reelClosedFinding n cause (t.lane n).drain (t.lane n).tally.framesClosed) (.reelEnd n cause)

/-- The reel's REEL_CLOSED finding has been disposed of: the state write, the acknowledgement of an abort, LANE. The
finding of an end that an abort or a fault has overtaken does nothing more (R47, R50; log entry 21). -/
def State.finishEnd (s : State) (n : LaneId) (cause : Cause) : State :=
  if (s.lane n).ending = some cause then
    let t := (s.updLane n fun l => { l with ending := none, abort := none }).enterClosed n cause
    match (s.lane n).abort with
    | some a => (t.writeAck n a.seq .done).raise .lane
    | none => t.raise .lane
  else s

/-! ### Ends that fall due -/

/-- The findings the lane has handed over have been disposed of (R153), and the trip points have been evaluated for its
last close (R131): the end of its reel may begin. -/
def State.mayEnd (s : State) (n : LaneId) : Bool := !s.reporting (.lane n) && !s.evaluating n

/-- A DRAINING lane with an empty window and no take in flight ends its reel when the part runs (R47). -/
def State.reelEndTry (s : State) (n : LaneId) : State :=
  let l := s.lane n
  if l.state = .draining && l.abort.isNone && l.window.isEmpty && l.closing.isNone && l.ending.isNone && s.running &&
      !s.inFlight (CtlKind.isDescriptor n) && s.mayEnd n
  then s.beginEnd n .closedByCommand else s

/-- An aborting lane with an empty window and no discarded take or FILL read in flight ends its reel when the part
runs (step 6 of R48). -/
def State.abortTry (s : State) (n : LaneId) : State :=
  let l := s.lane n
  if l.abort.any (fun a => !a.bare) && l.window.isEmpty && l.closing.isNone && l.ending.isNone && s.running &&
      !s.inFlight (CtlKind.isDescriptor n) && !s.inFlight (CtlKind.isFill n) && s.mayEnd n
  then s.beginEnd n .aborted else s

/-- Nothing of the lane's own remains to end (R49), and the trip points have been evaluated for its last close, so that no
evaluation of a reel outlives the reel (R145, R148; log entry 20). -/
def State.bare (s : State) (n : LaneId) : Bool :=
  !s.board.any (fun e => e.lane = n) && !s.mender.queue.any (fun q => q.namesLane n) &&
    !s.inFlight (CtlKind.ofReel n) && !s.evaluating n

/-- A lane context with its window records dropped without closing (R49). -/
def Lane.dropped (l : Lane) : Lane :=
  { l with
      window := []
      drain := 0
      taken := 0
      fillSeen := 0
      abort := none }

/-- A lane aborted from FAULTED or early OPENING enters CLOSED when nothing of its own remains (R49). -/
def State.bareTry (s : State) (n : LaneId) : State :=
  match (s.lane n).abort with
  | some a =>
    if a.bare && s.bare n then
      (((s.updLane n Lane.dropped).enterClosed n .aborted).writeAck n a.seq .done).raise .lane
    else s
  | none => s

/-- The end of a lane's reel, whichever is due. -/
def State.laneEnd (s : State) (n : LaneId) : State := ((s.bareTry n).abortTry n).reelEndTry n

/-! ### Stopping a lane's work -/

/-- Steps shared by an abort and a fault: the link is lost with that reason, QUEUED and HELD entries are removed and
FETCHING ones marked, and every mend of the lane's frames is cancelled, silently for its own recipients (R48, R50,
R119). -/
def State.stopLane (s : State) (n : LaneId) (code : Nat) : State :=
  ((s.linkLoss n (some code)).stopEntries fun e => e.lane = n).cancelMends (fun q => q.namesLane n) fun q => q.lane = n

/-- A lane enters FAULTED (R50). LANE is raised when the LANE_FAULT finding has been disposed of (R36). An end of the reel that a
DRAINING lane had begun gives way, a FILL read being taken in under R28 up to the CLOSED state write (DESIGN CHOICE, log entry
21). -/
def State.faultNow (s : State) (n : LaneId) (cause : Cause) : State :=
  let t := (((s.stopLane n 2).discardReads (CtlKind.ofReel n)).enter n .faulted cause).updLane n fun l => { l with
    opening := .idle
    drainOnFill := false
    pauseOnFill := false
    faultDue := none
    ending := none }
  t.hand (laneFaultFinding n cause (t.lane n).drain (t.lane n).taken) (.fault n)

/-- A condition of R50 arises: a closing sequence in progress completes first (R134), the first condition is kept, and
none arises in a lane that is CLOSED, FAULTED or aborting. -/
def State.fault (s : State) (n : LaneId) (cause : Cause) : State :=
  let l := s.lane n
  if l.abort.isSome || l.state = .faulted || l.state = .closed then s
  else if l.closing.isSome || l.faultDue.isSome then
    s.updLane n fun l => { l with faultDue := some (l.faultDue.getD cause) }
  else s.faultNow n cause

/-- A frame record marked withdrawn, its stripe verdicts dropped; it takes no part in pairing (R54, R96). -/
def Frame.withdraw (f : Frame) : Frame :=
  { f with
      kind := .withdrawn
      stripes := []
      pairing := .solo .unlinked }

/-- Every frame of the window is withdrawn but one whose closing sequence has begun (step 5 of R48). -/
def Lane.withdrawAll (l : Lane) : Lane :=
  match l.closing, l.window with
  | some _, f :: fs => { l with window := f :: fs.map Frame.withdraw }
  | _, fs => { l with window := fs.map Frame.withdraw }

/-- The lane context when ABORT is accepted: a starve ends, the latches and the withdraw list are cleared, and an end of
the reel already begun gives way (R47, R48, R70). -/
def Lane.aborting (l : Lane) (seq : Word) (bare : Bool) : Lane :=
  { l.captureStarve with
      abort := some ⟨seq, bare⟩
      opening := .idle
      drainOnFill := false
      pauseOnFill := false
      faultDue := none
      ending := none
      fillLatch := false
      withdraws := [] }

/-- ABORT accepted from an open lane past its DRAIN write: the abort sequence of R48. A reference list read runs to the
end of its attempt (R10). -/
def State.abortOpen (s : State) (n : LaneId) (seq : Word) : State :=
  (((s.stopLane n 1).discardReads fun k => k.isFill n || k.isDescriptor n).updLane n fun l =>
    (l.aborting seq false).withdrawAll).laneEnd n

/-- ABORT accepted from FAULTED or from early OPENING (R49). -/
def State.abortBare (s : State) (n : LaneId) (seq : Word) : State :=
  (((s.stopLane n 1).discardReads (CtlKind.ofReel n)).updLane n fun l => l.aborting seq true).laneEnd n

/-! ### The withdrawal of a window frame (R54, R105) -/

/-- The twin's side of a withdrawal: the partner of a PAIRED frame goes solo (R105). -/
def State.withdrawEffect (s : State) (n : LaneId) (pos : Word) (was : Pairing) : State :=
  match was with
  | .paired q => if s.linked n then s.partnerWithdrawn n pos q else s
  | .pending => s
  | .solo _ => s

/-- A lane in TWIN_WAIT without a pairing head leaves it (R98). -/
def State.leaveEmptyWait (s : State) (n : LaneId) : State :=
  if (s.lane n).pairingHead.isNone then s.leaveWait n else s

/-- A frame of the window is withdrawn by a recall. -/
def State.withdrawFrame (s : State) (n : LaneId) (f : Frame) : State :=
  let t := (s.updFrame n f.pos Frame.withdraw).stopEntries fun e => e.ofFrame n f.pos
  let t := t.dropVotes fun v =>
    v.pair = pairOf n && (if isFollower n then v.followerPos = f.pos else v.leaderPos = f.pos)
  let t := (t.withdrawEffect n f.pos f.pairing).cancelMends (fun q => q.names n f.pos) fun q =>
    q.lane = n && q.pos = f.pos
  (t.leaveEmptyWait n).reconcile (pairOf n)

/-! ### Pausing -/

/-- A running lane enters PAUSED (R44). -/
def State.pauseLane (s : State) (n : LaneId) : State :=
  if (s.lane n).runs && (s.lane n).abort.isNone then s.enter n .paused .noCause else s

/-- A follower in OPENING when a pause moves its leader is PAUSED when its opening is done (R109). -/
def Lane.pausedOpening (l : Lane) : Lane := { l with pauseOnFill := l.pauseOnFill || l.state = .opening }

/-- A pause of the linked pair: the leader, then the follower. DESIGN CHOICE (log entry 50): a trip's pause that moves the
leader has a follower in OPENING enter PAUSED at its first FILL value, as the leader's PAUSE would (R109), though R146 does not
move that follower at once; a pause that does not move the leader leaves it as it is. -/
def State.pausePair (s : State) (p : PairId) : State :=
  let t := (s.pauseLane (leader p)).pauseLane (follower p)
  if (s.lane (leader p)).runs && (s.lane (leader p)).abort.isNone then t.updLane (follower p) Lane.pausedOpening else t

/-- A pause of lane `n`, or of the linked pair it belongs to, the leader's state write first (R109, R146). -/
def State.pauseLanes (s : State) (n : LaneId) : State := if s.linked n then s.pausePair (pairOf n) else s.pauseLane n

end Sys2Proof.Machine
end

