-- ==== Sys2Proof/Machine/Trips.lean ====
section
/-! DEFINITION. Trip points (sections 9.2 to 9.4): the statistics (R142), the treatment of settings (R143), taking a
staged copy (R148, R150), evaluation (R144) and the trip with its action (R145, R146). -/

namespace Sys2Proof.Machine

/-- The source lane of a statistic: its number divided by 4; none above 31 (R142). -/
def sourceLane (source : Nat) : Option LaneId :=
  if h : source < 32 then some ⟨source / 4, by omega⟩ else none

/-- The source names a statistic of the lane. -/
def watches (source : Nat) (n : LaneId) : Bool := sourceLane source = some n

/-- The value of the statistic of kind `source mod 4` in a lane's tally (R142). -/
def Tally.statistic (t : Tally) (source : Nat) : Nat :=
  match source % 4 with
  | 0 => t.scoreR
  | 1 => t.damage
  | 2 => t.transit
  | _ => t.suspect

/-- The action of an ACTION code (R143). -/
def tripAction (code : Nat) : TripAction :=
  match code with
  | 1 => .pause
  | 2 => .step
  | _ => .notify

/-- The threshold in use (R143). -/
def TripRaw.thresholdUsed (r : TripRaw) : Nat :=
  let v := if r.source < 32 ∧ r.source % 4 = 0 then min r.threshold Config.scoreMax else r.threshold
  if tripAction r.action = .step then atLeastOne v else v

/-- The trip point that takes the settings: treated, ARMED, with baseline 0 and no staged copy (R143, R150). -/
def TripRaw.taken (r : TripRaw) : TripPoint where
  enable := r.enable
  source := r.source
  action := tripAction r.action
  threshold := r.thresholdUsed
  hysteresis := min r.hysteresis r.thresholdUsed
  tripped := false
  baseline := 0
  staged := none

/-- Enabled: ENABLE is set and SOURCE is 31 or below (R143). -/
def TripPoint.enabled (x : TripPoint) : Bool := x.enable && x.source < 32

/-- At a frame close on the lane, a staged copy is taken (R144, R150). -/
def TripPoint.atClose (x : TripPoint) (n : LaneId) : TripPoint :=
  match x.staged with
  | some r => if (x.enabled && watches x.source n) || watches r.source n then r.taken else x
  | none => x

/-- At an OPEN of the lane, a staged copy is taken, or the trip point is re-armed with baseline 0 (R148, R150). -/
def TripPoint.atOpen (x : TripPoint) (n : LaneId) : TripPoint :=
  let rearmed := if watches x.source n then { x with baseline := 0, tripped := false } else x
  match x.staged with
  | some r => if watches x.source n || watches r.source n then r.taken else rearmed
  | none => rearmed

/-- At the end of the reload that staged it, a copy is taken when neither SOURCE is 31 or below (R150). -/
def TripPoint.atReload (x : TripPoint) : TripPoint :=
  match x.staged with
  | some r => if 32 ≤ x.source ∧ 32 ≤ r.source then r.taken else x
  | none => x

/-- Every trip point meets the OPEN of a lane. -/
def State.tripsAtOpen (s : State) (n : LaneId) : State := { s with trips := s.trips.map fun x => x.atOpen n }

/-- The rise of the statistic since the baseline, 0 when it stands below (R144). -/
def TripPoint.rise (x : TripPoint) (value : Nat) : Nat := value - x.baseline

/-- The trip point trips: its finding, and its action at once after it has been handed over (R145, R146). The TRIP cause
follows when the finding has been disposed of (R153, R155). -/
def State.tripFires (s : State) (n : LaneId) (t : TripId) (value : Nat) : State :=
  let x := s.trip t
  let u := s.hand (tripFinding t x n value (s.lane n).drain) .health
  match x.action with
  | .notify => u.setTrip t { x with tripped := true }
  | .pause => (u.setTrip t { x with tripped := true }).pauseLanes n
  | .step => u.setTrip t { x with baseline := value }

/-- One evaluation of an enabled trip point (R144). -/
def State.evaluate (s : State) (n : LaneId) (t : TripId) : State :=
  let x := s.trip t
  let value := (s.lane n).tally.statistic x.source
  if x.tripped then
    if x.rise value < x.threshold - x.hysteresis then s.setTrip t { x with tripped := false } else s
  else if x.threshold ≤ x.rise value then s.tripFires n t value else s

/-- One trip point after a frame close on the lane: the staged copy first, then the evaluation (R144). -/
def State.tripAfterClose (s : State) (n : LaneId) (t : TripId) : State :=
  let u := s.setTrip t ((s.trip t).atClose n)
  if (u.trip t).enabled && watches (u.trip t).source n then u.evaluate n t else u

/-- What follows the evaluations of a close: a fault that waited for the close (R134), else a FILL read, the reconciler and
the end of the reel (R131). -/
def State.closeFollows (s : State) (n : LaneId) : State :=
  match (s.lane n).faultDue with
  | some c => s.faultNow n c
  | none => ((s.fillCause n).reconcile (pairOf n)).laneEnd n

/-- The evaluations that are due are made one after another, at most `fuel` of them, and the last of a lane's lets the lane
go on; after a trip point that trips the health unit waits until its finding has been disposed of (R131, R144, R153). -/
def State.evaluateDue : Nat → State → State
  | 0, s => s
  | fuel + 1, s =>
    if s.reporting .health then s
    else
      match s.evaluations with
      | [] => s
      | (n, t) :: rest =>
        let u := ({ s with evaluations := rest } : State).tripAfterClose n t
        State.evaluateDue fuel (if u.evaluating n then u else u.closeFollows n)

/-- The health unit makes the evaluations it may make. -/
def State.healthGoesOn (s : State) : State := State.evaluateDue s.evaluations.length s

/-- A frame of the lane has closed: the trip points are evaluated in ascending number, behind the evaluations already
due (R144). -/
def State.tripsAfterClose (s : State) (n : LaneId) : State :=
  ({ s with evaluations := s.evaluations ++ allTrips.map fun t => (n, t) } : State).healthGoesOn

end Sys2Proof.Machine
end

