-- ==== Sys2Proof/Machine/Close.lean ====
section
/-! DEFINITION. The closing sequence of a frame (chapter 8): when it may begin (R124), its writes and findings in order
(R126 to R130), the DRAIN write (R131), and what follows it. -/

namespace Sys2Proof.Machine

/-- The frame at the old end of the window is ready to close (R124). -/
def State.ready (s : State) (n : LaneId) (f : Frame) : Bool :=
  match f.kind with
  | .normal => f.unsettled = 0 && s.boardCount n f.pos = 0 && s.pendingMends n f.pos = 0
  | .withdrawn =>
    s.boardCount n f.pos = 0 && s.pendingMends n f.pos = 0 && !s.inFlight (CtlKind.isRefOf n f.pos)
  | .malformed => true

/-- The lane is in a state in which frames close (R124). -/
def Lane.closes (l : Lane) : Bool :=
  l.state = .active || l.state = .starved || l.state = .paused || l.state = .draining

/-- The lane has an abort in progress whose frames close, one of R48: a lane aborted from FAULTED closes no frame, its
window records are dropped (R49). -/
def Lane.closesAborted (l : Lane) : Bool := l.abort.any fun a => !a.bare

/-- The lane may begin the closing sequence of its frame at `pos` (R124): an end of the reel or a fault already due comes
first, and so do the evaluations of its last close (R131). The findings it has handed over, and those of the mend engine for
that frame, have been disposed of (R153), so that DRAIN never passes a frame with a finding that still waits. -/
def State.mayClose (s : State) (n : LaneId) (pos : Word) : Bool :=
  let l := s.lane n
  (l.closes || l.closesAborted) && l.closing.isNone && l.ending.isNone && l.faultDue.isNone && s.running &&
    !s.evaluating n && !s.strip.undisposed.any fun w => w.concerns n pos

/-- The record list of a frame: its header and its values, as posted writes in address order (R11). -/
def State.writeRecord (s : State) (n : LaneId) (f : Frame) : State :=
  let o := (s.lane n).settings
  if f.wantsRecord o.options && f.allComputed then
    (s.write f.recordAddr (refHeaderBytes o.exponent f.n f.length)).write (Addr.plus f.recordAddr 16) f.recordBody
  else s

/-- The frame record fixed at the beginning of its close, RECORD_SKIPPED decided (R125, R127). -/
def Frame.fixed (f : Frame) (o : Options) : Frame :=
  { f with recordSkipped := f.wantsRecord o && !f.allComputed }

/-- The verdict area of a frame, written whole (R127, R132, R133). -/
def State.writeVerdict (s : State) (n : LaneId) (f : Frame) : State :=
  s.write (Addr.plus (slotAddr (s.lane n).settings f.pos) 0x60) f.verdictArea

/-- A lane context after step 5 of R126: DRAIN advances, and the oldest record leaves the window with its reservation
(R131). -/
def Lane.drained (l : Lane) : Lane :=
  { l with
      drain := l.drain + 1
      window := l.window.tail
      closing := none }

/-- The tally of the lane after the close of a frame (R130). -/
def Lane.tallied (l : Lane) (f : Frame) : Lane := { l with tally := l.tally.closed l.settings f }

/-- Steps 4 and 5 of R126: score and tally, then DRAIN; what follows is R131's, the trip points first. -/
def State.closeTail (s : State) (n : LaneId) : State :=
  match (s.lane n).window.head? with
  | none => s
  | some f =>
    ((((s.updLane n fun l => l.tallied f).writeTally n).updLane n Lane.drained).writeDrain n).tripsAfterClose n

/-- The next run finding of a close is handed over, or the close goes on to steps 4 and 5 (R129). -/
def State.closeNext (s : State) (n : LaneId) : State :=
  match (s.lane n).closing with
  | none => s
  | some [] => s.closeTail n
  | some (f :: rest) => (s.updLane n fun l => { l with closing := some rest }).hand f (.closeRun n)

/-- The closing sequence of the oldest frame begins: record list, verdict area, run findings (R126). -/
def State.beginClose (s : State) (n : LaneId) (f : Frame) : State :=
  let g := f.fixed (s.lane n).settings.options
  let t := ((s.updFrame n f.pos fun _ => g).writeRecord n g).writeVerdict n g
  (t.updLane n fun l => { l with closing := some (g.runs.map (stripeRunFinding s.now n g)) }).closeNext n

/-- CLOSE_BEGIN (R126): nothing happens when the lane's oldest frame is not ready or the lane may not close. -/
def execCloseBegin (n : LaneId) (s : State) : Host.Outcome State Fault Refusal :=
  attempt (fun s =>
    match (s.lane n).window.head? with
    | some f => if s.mayClose n f.pos && s.ready n f then some (s.beginClose n f) else none
    | none => none) s

end Sys2Proof.Machine
end

