-- ==== Sys2Proof/Machine/Findings.lean ====
section
/-! DEFINITION. The findings unit (chapter 10): which waiting finding is disposed of next, the STRIP_READ judgement
(R154), placing a record (R153), dropping it and the OVERRUN record (R155), and how the submitter goes on. -/

namespace Sys2Proof.Machine

/-! ### The strip -/

/-- A record is written at slot STRIP_WRITTEN mod C with its index (R153). -/
def State.writeSlot (s : State) (f : Finding) : State :=
  s.write (Addr.plus s.dir.stripBase (s.strip.written.toNat % s.dir.stripCapacity * 32)) (f.bytes s.strip.written)

/-- STRIP_WRITTEN goes up by one, the cached room down by one (R153). -/
def FindingsUnit.advanced (u : FindingsUnit) : FindingsUnit := { u with written := u.written + 1, room := u.room - 1 }

/-- The new STRIP_WRITTEN is written into the directory (R153). -/
def State.writeWritten (s : State) : State := s.write (Addr.plus s.regs.dirBase 0x10) (wordBytes s.strip.written)

/-- STRIP_OVERRUN is written into the directory (R155). -/
def State.writeOverrun (s : State) (v : Nat) : State := s.write (Addr.plus s.regs.dirBase 0x18) (leBytes 4 v)

/-- A finding is placed on the strip: record, STRIP_WRITTEN, FINDINGS (step 3 of R153). -/
def State.placeRecord (s : State) (f : Finding) : State :=
  (((s.writeSlot f).setStrip s.strip.advanced).writeWritten).raise .findings

/-- The OVERRUN record is placed, and the overrun ends (R155). -/
def State.placeOverrun (s : State) : State :=
  let t := ((s.writeSlot (overrunFinding s.strip.drops)).setStrip s.strip.advanced).writeWritten
  ((t.setStrip { t.strip with drops := 0, overrun := false }).writeOverrun 0).raise .findings

/-- A finding is dropped; the first drop of an overrun writes STRIP_OVERRUN = 1 (R155). -/
def State.dropFinding (s : State) : State :=
  let t := s.setStrip { s.strip with drops := saturate (s.strip.drops + 1), overrun := true }
  if s.strip.overrun then t else t.writeOverrun 1

/-! ### The submitter goes on -/

/-- What the submitter of a finding does once it has been disposed of (R47, R48, R50, R129, R145, R155): a lane ends its
reel where that waited, the health unit raises TRIP and makes the evaluations that waited. -/
def State.resumeSubmitter (s : State) : Submitter → State
  | .lane n => s.laneEnd n
  | .closeRun n => s.closeNext n
  | .reelEnd n cause => (s.finishEnd n cause).laneEnd n
  | .fault n => (s.raise .lane).laneEnd n
  | .mendEngine => s
  | .health => (s.raise .trip).healthGoesOn

/-- Steps 2 to 4 of R153, the cached room being known. -/
def State.disposeOf (s : State) (w : Waiting) : State :=
  let t := if s.strip.overrun && 0 < s.strip.room then s.placeOverrun else s
  let u := if 0 < t.strip.room then t.placeRecord w.finding else t.dropFinding
  u.resumeSubmitter w.submitter

/-! ### Which finding is next -/

/-- The first waiting finding of each block, since a block waits for one finding before it hands the next. -/
def firstPerBlock : List Waiting → List Waiting
  | [] => []
  | w :: ws => w :: (firstPerBlock ws).filter fun v => v.submitter.block ≠ w.submitter.block

/-- The findings that may be disposed of next: those that began to wait first, one for each block (R153); each waits since
its own event (log entry 47). -/
def FindingsUnit.eligible (u : FindingsUnit) : List Waiting :=
  match u.waiting with
  | [] => []
  | w :: ws => firstPerBlock ((w :: ws).filter fun v => v.since = w.since)

/-- The finding that is disposed of next; `pick` is the manual's free order among those that began to wait together. -/
def FindingsUnit.next (u : FindingsUnit) (pick : Nat) : Option Waiting := u.eligible[pick % u.eligible.length]?

/-- A finding is taken from those that wait: at once, or after STRIP_READ has been read (step 1 of R153). -/
def State.dispose (s : State) (w : Waiting) : State :=
  let t := s.setStrip { s.strip with waiting := s.strip.waiting.erase w }
  if t.strip.overrun || t.strip.room = 0 then
    (t.setStrip { t.strip with disposing := some w }).request .stripRead (Addr.plus t.regs.dirBase 0x14) 4 1
  else t.disposeOf w

/-! ### STRIP_READ (R154) -/

/-- STRIP_WRITTEN − V, modulo 2^32. -/
def FindingsUnit.behind (u : FindingsUnit) (v : Word) : Nat := (u.written - v).toNat

/-- A value refused, or a read that failed twice: the strip counts as full (R154). -/
def State.refuseRead (s : State) : State := (s.setStrip { s.strip with room := 0 }).raise .directoryFault

/-- A value accepted or refused (R154). -/
def State.judgeRead (s : State) (v : Word) : State :=
  if s.strip.behind v ≤ s.dir.stripCapacity then
    s.setStrip { s.strip with lastRead := v, room := s.dir.stripCapacity - s.strip.behind v }
  else s.refuseRead

/-- The disposal that waited for STRIP_READ goes on. -/
def State.disposeWaiting (s : State) : State :=
  match s.strip.disposing with
  | some w => (s.setStrip { s.strip with disposing := none }).disposeOf w
  | none => s

/-- FINDING_DISPOSE (R153): the unit disposes of one finding at a time, on the strip of a validated directory. -/
def execFindingDispose (pick : Nat) (s : State) : Host.Outcome State Fault Refusal :=
  attempt (fun s =>
    if s.strip.disposing.isNone && s.regs.ready then (s.strip.next pick).map s.dispose else none) s

/-- STRIP_READ_COMPLETE (R154). -/
def execStripReadComplete (tag : Nat) (value : Word) (s : State) : Host.Outcome State Fault Refusal :=
  attempt (fun s =>
    match s.sentRead tag with
    | some r => if r.kind = .stripRead then some ((s.dropRead tag).judgeRead value).disposeWaiting else none
    | none => none) s

/-- STRIP_READ_FAIL (R154). -/
def execStripReadFail (tag : Nat) (s : State) : Host.Outcome State Fault Refusal :=
  attempt (fun s =>
    match s.sentRead tag with
    | some r =>
      if r.kind = .stripRead then
        if r.attempt = 1 then some ((s.dropRead tag).retry r) else some ((s.dropRead tag).refuseRead).disposeWaiting
      else none
    | none => none) s

end Sys2Proof.Machine
end

