-- ==== Sys2Proof/Machine/Opening.lean ====
section
/-! DEFINITION. Opening a reel (sections 2.1 and 3.3) and the FILL mark (section 2.4): the sheet header with its checks
(R19 to R22), the twin check and the forming of a link (R95, R96), steps 3 to 5 of R42, the FILL values (R25, R28), and
what of it a quiesce or a freeze holds back until the part runs again (R43). -/

namespace Sys2Proof.Machine

/-! ### The sheet header read (R19) -/

/-- The sheet header read begins, or waits for the part to run (R43). -/
def State.startHeader (s : State) (n : LaneId) : State :=
  if s.running then
    (s.updLane n fun l => { l with opening := .headerRead }).request (.sheetHeader n) (s.lane n).sheet 64 1
  else s.updLane n fun l => { l with opening := .headerDue }

/-! ### The twin check (R95, R96) -/

/-- The leader's own sheet checks have passed, or it runs, or it is paused (R95). -/
def Lane.leads (l : Lane) : Bool :=
  (l.state = .opening && (l.opening = .drainDue || l.opening = .fillRead)) || l.state = .active ||
    l.state = .starved || l.state = .paused

/-- The follower's twin check (R95). -/
def State.twinCheck (s : State) (n : LaneId) (h : SheetHeader) : Bool :=
  let l := s.lane (leader (pairOf n))
  l.leads && l.abort.isNone && l.settings.options.twinLead && l.settings.exponent = h.stripeLog && !s.linked n

/-- The normal frames of a lane's window that still have stripes to issue, in ring order. -/
def Lane.unissued (l : Lane) : List Word :=
  (l.window.filter fun f => f.kind = .normal && f.cursor < f.n).map Frame.pos

/-- A leader frame in the window when the link forms is SOLO with reason UNLINKED, whatever an earlier link left it (R96), and
such a frame has no UNPAIRED flag (R99; log entry 42). -/
def Frame.unlinked (f : Frame) : Frame :=
  { f with
      pairing := .solo .unlinked
      unpaired := false }

/-- The link forms: the leader's frames with stripes to issue stand in the queue as leader-solo items, all its frames are SOLO
with reason UNLINKED, and the follower holds no permit (R96). -/
def State.formLink (s : State) (n : LaneId) : State :=
  let p := pairOf n
  let t := s.setLink p ⟨true, (s.lane (leader p)).unissued.map .leaderSolo⟩
  (t.updLane (leader p) fun l => { l with window := l.window.map Frame.unlinked }).updLane n fun l =>
    { l with pacing := { l.pacing with permit := false } }

/-! ### Steps 3 to 5 of R42 -/

/-- The lane context when a valid sheet has been cached (R19, R22): the counts of an earlier reel go with its settings, since
FILL seen − DRAIN is at most E in every lane that is not CLOSED (R24; DEDUCED, log entry 48), and the window is that of a lane
that was CLOSED. -/
def Lane.cached (l : Lane) (c : Settings) : Lane :=
  { l with
      settings := c
      drain := 0
      taken := 0
      fillSeen := 0
      window := [] }

/-- The lane context at steps 3 and 4 of R42: the counts and the tally at 0, S at SEED (R141), the pace counter at its
reload, the fine group index at 1 (R58 to R63), no withdraw list, and the empty window of a lane that was CLOSED (R24). -/
def Lane.opened (l : Lane) : Lane :=
  { l with
      opening := .fillRead
      drain := 0
      taken := 0
      fillSeen := 0
      window := []
      withdraws := []
      pacing := { l.pacing with
        count := l.settings.paceReload
        group := 1
        extraSpent := false
        permit := false }
      tally := { Tally.reset with
        scoreS := l.settings.seed
        scoreR := reported l.settings l.settings.seed } }

/-- The first FILL read of the reel (R27); one still in flight from an earlier reel goes first. -/
def State.firstFill (s : State) (n : LaneId) : State :=
  if s.inFlight (CtlKind.isFill n) then s.updLane n fun l => { l with fillLatch := true } else s.requestFill n

/-- Steps 3, 4 and 5 of R42: counts, DRAIN write, the reel's internal state, trip points, the first FILL read. -/
def State.openReel (s : State) (n : LaneId) : State :=
  (((s.updLane n Lane.opened).writeDrain n).tripsAtOpen n).firstFill n

/-- Steps 3 to 5 follow at once, or wait for the part to run (R43). -/
def State.afterCheck (s : State) (n : LaneId) : State :=
  if s.running then s.openReel n else s.updLane n fun l => { l with opening := .drainDue }

/-- A valid sheet: the clamped settings are cached with counts of 0, the follower's twin check is made, and the opening goes on (R19,
R22, R95). -/
def State.acceptSheet (s : State) (n : LaneId) (h : SheetHeader) : State :=
  let t := s.updLane n fun l => l.cached h.clamped
  if h.options.twinFollow then
    if t.twinCheck n h then (t.formLink n).afterCheck n else t.fault n .twinMismatch
  else t.afterCheck n

/-- The header has arrived: checked under R21, accepted or refused. -/
def State.judgeSheet (s : State) (n : LaneId) (data : List Byte) : State :=
  let h := readSheetHeader data
  if h.valid n then s.acceptSheet n h else s.fault n .sheetInvalid

/-! ### FILL values (R25, R28) -/

/-- The FILL value is accepted (R25). -/
def Lane.acceptsFill (l : Lane) (v : Word) : Bool :=
  (v - l.drain).toNat ≤ 2 ^ l.settings.ringLog && (v - l.fillSeen).toNat ≤ 2 ^ 31

/-- What leaving OPENING leads to when the first FILL value has been taken in (R28, R109, R110). -/
def State.leaveOpening (s : State) (n : LaneId) : State :=
  let l := s.lane n
  let t := s.updLane n fun l => { l with opening := .idle, drainOnFill := false, pauseOnFill := false }
  if l.drainOnFill then t.enter n .draining .noCause
  else if l.pauseOnFill && s.linked n && (s.lane (twin n)).state = .paused then t.enter n .paused .noCause
  else if l.fillSeen = l.taken then t.enter n .starved .noFrames
  else t.enter n .active .noCause

/-- The table of R28, FILL seen being updated. -/
def State.fillMoves (s : State) (n : LaneId) : State :=
  let l := s.lane n
  match l.state with
  | .opening => s.leaveOpening n
  | .active => if l.window.isEmpty && l.fillSeen = l.taken then s.enter n .starved .noFrames else s
  | .starved => if l.cause = .noFrames && l.fillSeen ≠ l.taken then s.enter n .active .noCause else s
  | .paused => s
  | .draining => s
  | .closed => s
  | .faulted => s

/-- A FILL value is taken in, in every state but CLOSED and FAULTED (R28): refused as MARK_INVALID, or accepted. -/
def State.takeFill (s : State) (n : LaneId) (v : Word) : State :=
  if (s.lane n).acceptsFill v then
    ((((s.updLane n fun l => { l with fillSeen := v }).fillMoves n).serveFill n).reconcile (pairOf n)).laneEnd n
  else s.fault n .markInvalid

/-- A FILL read whose data is discarded has ended (R28, R48, R50). -/
def State.fillDiscarded (s : State) (n : LaneId) : State := (s.serveFill n).laneEnd n

/-! ### Work that waits for the part to run -/

/-- The opening step that waits goes on (R43). The counts of a reel that opens bear on its twin (R98). -/
def State.openStep (s : State) (n : LaneId) : State :=
  match (s.lane n).opening with
  | .headerDue => s.startHeader n
  | .drainDue => (s.openReel n).reconcile (pairOf n)
  | .idle => s
  | .headerRead => s
  | .fillRead => s

/-! ### The commands -/

/-- SHEET_HEADER_READ_FAIL: a second attempt, then BUS_FAULT (R19). -/
def State.sheetReadFailed (s : State) (r : CtlRead) (n : LaneId) : State :=
  let t := s.dropRead r.tag
  if r.discard then t.laneEnd n
  else if r.attempt = 1 then t.retry r
  else t.fault n .busFault

/-- SHEET_HEADER_READ_COMPLETE (R19): a completion of the wrong length is an error status (R83). -/
def execSheetHeaderReadComplete (tag : Nat) (data : List Byte) (s : State) : Host.Outcome State Fault Refusal :=
  attempt (fun s =>
    match s.sentRead tag with
    | none => none
    | some r =>
      match r.kind with
      | .sheetHeader n =>
        if data.length ≠ 64 then some (s.sheetReadFailed r n)
        else if r.discard then some ((s.dropRead tag).laneEnd n)
        else some ((s.dropRead tag).judgeSheet n data)
      | _ => none) s

/-- SHEET_HEADER_READ_FAIL (R19). -/
def execSheetHeaderReadFail (tag : Nat) (s : State) : Host.Outcome State Fault Refusal :=
  attempt (fun s =>
    match s.sentRead tag with
    | none => none
    | some r =>
      match r.kind with
      | .sheetHeader n => some (s.sheetReadFailed r n)
      | _ => none) s

/-- FILL_READ_COMPLETE (R28). -/
def execFillReadComplete (tag : Nat) (value : Word) (s : State) : Host.Outcome State Fault Refusal :=
  attempt (fun s =>
    match s.sentRead tag with
    | none => none
    | some r =>
      match r.kind with
      | .fill n =>
        if r.discard || (s.lane n).state = .closed || (s.lane n).state = .faulted then
          some ((s.dropRead tag).fillDiscarded n)
        else some ((s.dropRead tag).takeFill n value)
      | _ => none) s

/-- FILL_READ_FAIL: a second attempt, then BUS_FAULT (R27). -/
def execFillReadFail (tag : Nat) (s : State) : Host.Outcome State Fault Refusal :=
  attempt (fun s =>
    match s.sentRead tag with
    | none => none
    | some r =>
      match r.kind with
      | .fill n =>
        if r.discard then some ((s.dropRead tag).fillDiscarded n)
        else if r.attempt = 1 then some ((s.dropRead tag).retry r)
        else some ((s.dropRead tag).fault n .busFault)
      | _ => none) s

end Sys2Proof.Machine
end

