-- ==== Sys2Proof/Machine/Commands.lean ====
section
/-! DEFINITION. Wakes and commands (section 3.2, 3.4, 3.5, 6.6): the WAKE register and its latch (R41), the lane entry
read (R38), the sequence comparison (R39), and OPEN, PAUSE, RESUME, CLOSE, ABORT and unknown codes (R40, R42 to R49, R108
to R110). -/

namespace Sys2Proof.Machine

/-! ### Wakes (R41) -/

/-- None of the three conditions of R41 that latch a wake holds. -/
def State.servesWake (s : State) (n : LaneId) : Bool :=
  !s.inFlight (CtlKind.isLaneEntry n) && (s.lane n).abort.isNone && s.running && s.regs.ready

/-- The lane entry read begins (R38). -/
def State.readEntry (s : State) (n : LaneId) : State := s.request (.laneEntry n) (laneEntryAddr s.regs n) 32 1

/-- A wake raised at a lane: served at once, or latched. -/
def State.wakeLane (s : State) (n : LaneId) : State :=
  if s.servesWake n then s.readEntry n else s.updLane n fun l => { l with wakeLatch := true }

/-- WAKE (R41): a wake at each lane whose bit is set. -/
def execWake (value : Word) (s : State) : Host.Outcome State Fault Refusal :=
  attempt (fun s =>
    match allLanes.filter fun n => value.getLsbD n.val with
    | [] => none
    | n :: ns => some ((n :: ns).foldl State.wakeLane s)) s

/-- LATCHED_WAKE_SERVE (R41). -/
def execLatchedWakeServe (n : LaneId) (s : State) : Host.Outcome State Fault Refusal :=
  attempt (fun s =>
    if (s.lane n).wakeLatch && s.servesWake n then
      some ((s.updLane n fun l => { l with wakeLatch := false }).readEntry n)
    else none) s

/-! ### The lane entry read (R38, R39) -/

/-- A lane entry arrives: `act` is what its command does when it is new. Serving the wake is then complete, which is a
cause for a FILL read (R27, R38). -/
def State.entryArrives (s : State) (tag : Nat) (seq : Word) (act : LaneId → State → State) : Option State :=
  match s.sentRead tag with
  | none => none
  | some r =>
    match r.kind with
    | .laneEntry n =>
      let t := s.dropRead tag
      if seq = (t.lane n).lastSeq then some (t.fillCause n)
      else some ((act n (t.updLane n fun l => { l with lastSeq := seq })).fillCause n)
    | _ => none

/-- SEQUENCE_UNCHANGED (R39): the entry's COMMAND_SEQ is the last acted one; the wake is served. -/
def execSequenceUnchanged (tag : Nat) (s : State) : Host.Outcome State Fault Refusal :=
  attempt (fun s =>
    match s.sentRead tag with
    | none => none
    | some r =>
      match r.kind with
      | .laneEntry n => some ((s.dropRead tag).fillCause n)
      | _ => none) s

/-- LANE_ENTRY_READ_FAIL (R38): a second attempt, then the wake is abandoned and DIRECTORY_FAULT raised. -/
def execLaneEntryReadFail (tag : Nat) (s : State) : Host.Outcome State Fault Refusal :=
  attempt (fun s =>
    match s.sentRead tag with
    | none => none
    | some r =>
      match r.kind with
      | .laneEntry _ =>
        if r.attempt = 1 then some ((s.dropRead tag).retry r) else some ((s.dropRead tag).raise .directoryFault)
      | _ => none) s

/-! ### The lane entry's bytes (R39, R40, R166) -/

/-- The command that a lane entry read's completion amounts to, from the 32 bytes that arrive and the lane's last acted
sequence: no new command, the command of a COMMAND code from 1 to 5, or an unknown one; a completion of the wrong length
is an error status (R83). -/
def laneEntryArrival (tag : Nat) (data : List Byte) (last : Word) : Instr :=
  let sheet : Addr := BitVec.ofNat 64 (field data 0x00 8)
  let code := natWord (field data 0x08 4)
  let seq := natWord (field data 0x0C 4)
  if data.length ≠ 32 then .laneEntryReadFail tag
  else if seq = last then .sequenceUnchanged tag
  else
    match code.toNat with
    | 1 => .openReel tag seq sheet
    | 2 => .pauseReel tag seq
    | 3 => .resumeReel tag seq
    | 4 => .closeReel tag seq
    | 5 => .abortReel tag seq
    | _ => .unknownCommand tag seq code

/-! ### OPEN (R42) -/

/-- OPEN in the lane's state (R40, R42): the state write, the acknowledgement, then step 1; a sheet address of 0 makes
the sheet invalid with no read (R19). -/
def State.openCommand (s : State) (n : LaneId) (seq : Word) (sheet : Addr) : State :=
  if (s.lane n).state = .closed then
    let t := ((s.updLane n fun l => { l with
        sheet := alignDown sheet 8
        drainOnFill := false
        pauseOnFill := false }).enter n .opening .noCause).writeAck n seq .done
    if alignDown sheet 8 = 0 then t.fault n .sheetInvalid else t.startHeader n
  else s.writeAck n seq .refusedState

/-- OPEN (R42). -/
def execOpen (tag : Nat) (seq : Word) (sheet : Addr) (s : State) : Host.Outcome State Fault Refusal :=
  attempt (fun s => s.entryArrives tag seq fun n s => s.openCommand n seq sheet) s

/-! ### PAUSE and RESUME (R44, R45, R108, R109) -/

/-- PAUSE, RESUME and CLOSE are refused to the follower of a linked pair (R108). -/
def State.refusesTwin (s : State) (n : LaneId) : Bool := s.linked n && isFollower n

/-- PAUSE in the lane's state (R40, R109). -/
def State.pauseCommand (s : State) (n : LaneId) (seq : Word) : State :=
  if s.refusesTwin n then s.writeAck n seq .refusedTwin
  else if (s.lane n).runs then (s.pauseLanes n).writeAck n seq .done
  else if (s.lane n).state = .paused then s.writeAck n seq .done
  else s.writeAck n seq .refusedState

/-- PAUSE (R44). -/
def execPause (tag : Nat) (seq : Word) (s : State) : Host.Outcome State Fault Refusal :=
  attempt (fun s => s.entryArrives tag seq fun n s => s.pauseCommand n seq) s

/-- A PAUSED lane enters ACTIVE (R45). -/
def State.resumeLane (s : State) (n : LaneId) : State :=
  if (s.lane n).state = .paused then s.enter n .active .noCause else s

/-- RESUME of a lane, or of its linked pair through the leader; the entry to ACTIVE is a cause for a FILL read (R27, R45,
R109). -/
def State.resumeLanes (s : State) (n : LaneId) (seq : Word) : State :=
  if s.linked n then
    let both := (s.lane (twin n)).state = .paused
    let t := (((s.resumeLane n).resumeLane (twin n)).writeAck n seq .done).fillCause n
    (if both then t.fillCause (twin n) else t).reconcile (pairOf n)
  else ((s.resumeLane n).writeAck n seq .done).fillCause n

/-- RESUME in the lane's state (R40). -/
def State.resumeCommand (s : State) (n : LaneId) (seq : Word) : State :=
  if s.refusesTwin n then s.writeAck n seq .refusedTwin
  else if (s.lane n).state = .paused then s.resumeLanes n seq
  else s.writeAck n seq .refusedState

/-- RESUME (R45). -/
def execResume (tag : Nat) (seq : Word) (s : State) : Host.Outcome State Fault Refusal :=
  attempt (fun s => s.entryArrives tag seq fun n s => s.resumeCommand n seq) s

/-! ### CLOSE (R46, R110) -/

/-- The lane is in a state that CLOSE moves to DRAINING (R40). -/
def Lane.closable (l : Lane) : Bool := l.runs || l.state = .paused

/-- A lane enters DRAINING (R46). -/
def State.drainLane (s : State) (n : LaneId) : State :=
  if (s.lane n).closable then s.enter n .draining .noCause else s

/-- The follower of a linked pair whose leader drains: it drains as well, at once or when its opening is done (R110). -/
def State.drainFollower (s : State) (n : LaneId) : State :=
  if (s.lane n).state = .opening then s.updLane n fun l => { l with drainOnFill := true } else s.drainLane n

/-- CLOSE of a lane, or of its linked pair through the leader. A lane with nothing left ends its reel at once (R46). DESIGN
CHOICE (log entry 49): when both lanes of the pair have nothing left, the leader's end begins first. -/
def State.closeLanes (s : State) (n : LaneId) (seq : Word) : State :=
  if s.linked n then
    (((((s.drainLane n).drainFollower (twin n)).writeAck n seq .done).reconcile (pairOf n)).laneEnd n).laneEnd (twin n)
  else ((s.drainLane n).writeAck n seq .done).laneEnd n

/-- CLOSE in the lane's state (R40). -/
def State.closeCommand (s : State) (n : LaneId) (seq : Word) : State :=
  if s.refusesTwin n then s.writeAck n seq .refusedTwin
  else if (s.lane n).closable then s.closeLanes n seq
  else if (s.lane n).state = .draining || (s.lane n).state = .closed then s.writeAck n seq .done
  else s.writeAck n seq .refusedState

/-- CLOSE (R46). -/
def execClose (tag : Nat) (seq : Word) (s : State) : Host.Outcome State Fault Refusal :=
  attempt (fun s => s.entryArrives tag seq fun n s => s.closeCommand n seq) s

/-! ### ABORT (R48, R49) -/

/-- The lane is in OPENING before its DRAIN write (R40). -/
def Lane.earlyOpening (l : Lane) : Bool := l.state = .opening && l.opening ≠ .fillRead

/-- ABORT in the lane's state (R40): its acknowledgement comes at the end of the abort (R39). -/
def State.abortCommand (s : State) (n : LaneId) (seq : Word) : State :=
  if (s.lane n).state = .closed then s.writeAck n seq .done
  else if (s.lane n).state = .faulted || (s.lane n).earlyOpening then s.abortBare n seq
  else s.abortOpen n seq

/-- ABORT (R48). -/
def execAbort (tag : Nat) (seq : Word) (s : State) : Host.Outcome State Fault Refusal :=
  attempt (fun s => s.entryArrives tag seq fun n s => s.abortCommand n seq) s

/-! ### Unknown codes (R40) -/

/-- UNKNOWN_COMMAND (R40). A code of 1 to 5 is no unknown command; such an ill-formed command changes nothing. -/
def execUnknownCommand (tag : Nat) (seq : Word) (code : Word) (s : State) : Host.Outcome State Fault Refusal :=
  attempt (fun s =>
    if code.toNat = 0 ∨ 5 < code.toNat then
      s.entryArrives tag seq fun n s => s.writeAck n seq .unknownCommand
    else none) s

end Sys2Proof.Machine
end

