-- ==== Sys2Proof/Machine/Directory.lean ====
section
/-! DEFINITION. The directory unit: the validation of the directory (R159) and the trip reload (R149, R150). -/

namespace Sys2Proof.Machine

/-- The state with the directory unit replaced. -/
def State.setDir (s : State) (d : Directory) : State := { s with dir := d }

/-! ### Validation (R159) -/

/-- Is it the directory header read. -/
def CtlKind.isHeader (k : CtlKind) : Bool := k = .dirHeader

/-- The validation read begins, unless one is in flight. -/
def State.validate (s : State) : State :=
  if s.inFlight CtlKind.isHeader then s else s.request .dirHeader s.regs.dirBase 64 1

/-- The header is valid: STRIP_BASE and C are cached and READY is set. -/
def State.acceptHeader (s : State) (h : DirHeader) : State :=
  (s.setDir { s.dir with stripBase := h.stripBase, stripCapacity := 2 ^ h.stripLog }).setRegs { s.regs with ready := true }

/-- The validation failed: STATUS.DIRECTORY_FAULT is set and the cause raised. -/
def State.validationFails (s : State) : State := (s.setRegs { s.regs with dirFault := true }).raise .directoryFault

/-- The header has arrived. -/
def State.judgeHeader (s : State) (data : List Byte) : State :=
  if (readDirHeader data).valid then s.acceptHeader (readDirHeader data) else s.validationFails

/-- A validation read failed: a second attempt, then the validation has failed. -/
def State.headerFailed (s : State) (r : CtlRead) : State :=
  if r.attempt = 1 then (s.dropRead r.tag).retry r else (s.dropRead r.tag).validationFails

/-- DIRECTORY_HEADER_READ_COMPLETE (R159): a completion of the wrong length is an error status (R83). -/
def execDirectoryHeaderReadComplete (tag : Nat) (data : List Byte) (s : State) : Host.Outcome State Fault Refusal :=
  attempt (fun s =>
    match s.sentRead tag with
    | some r =>
      if r.kind = .dirHeader then
        if data.length ≠ 64 then some (s.headerFailed r) else some ((s.dropRead tag).judgeHeader data)
      else none
    | none => none) s

/-- DIRECTORY_HEADER_READ_FAIL (R159). -/
def execDirectoryHeaderReadFail (tag : Nat) (s : State) : Host.Outcome State Fault Refusal :=
  attempt (fun s =>
    match s.sentRead tag with
    | some r => if r.kind = .dirHeader then some (s.headerFailed r) else none
    | none => none) s

/-! ### Trip reload (R149) -/

/-- Is it a trip point entry read. -/
def CtlKind.isTripEntry : CtlKind → Bool
  | .tripEntry _ => true
  | _ => false

/-- A reload may start: ENABLE and READY are set and none is in progress. -/
def State.mayReload (s : State) : Bool := s.regs.enable && s.regs.ready && !s.regs.reloadBusy

/-- A reload starts: STATUS.TRIP_RELOAD_BUSY is set and the four entries are read. -/
def State.startReload (s : State) : State :=
  allTrips.foldl (fun t i => t.request (.tripEntry i) (tripEntryAddr t.regs i) 16 1)
    ((s.setDir { s.dir with reload := some (Vector.replicate 4 none) }).setRegs { s.regs with reloadBusy := true })

/-- A request for a reload: it starts, or it is latched. -/
def State.requestReload (s : State) : State :=
  if s.mayReload then s.startReload else s.setDir { s.dir with reloadLatch := true }

/-- TRIP_RELOAD (R149). -/
def execTripReload (s : State) : Host.Outcome State Fault Refusal := always State.requestReload s

/-- TRIP_RELOAD_LATCHED_START (R149). -/
def execTripReloadLatchedStart (s : State) : Host.Outcome State Fault Refusal :=
  attempt (fun s =>
    if s.dir.reloadLatch && s.mayReload then some (s.setDir { s.dir with reloadLatch := false }).startReload else none) s

/-- The reload has ended: no entries are held, STATUS.TRIP_RELOAD_BUSY is clear. -/
def State.endReload (s : State) : State :=
  (s.setDir { s.dir with reload := none }).setRegs { s.regs with reloadBusy := false }

/-- The staged copies of the four trip points are replaced, and a copy is taken where no lane will ever call for it
(R149, R150). -/
def State.stageCopies (s : State) (raws : Vector TripRaw 4) : State :=
  { s with trips := (s.trips.zipWith (fun x r => { x with staged := some r }) raws).map TripPoint.atReload }

/-- All four entries, when all four have arrived. -/
def gathered (v : Vector (Option TripRaw) 4) : Option (Vector TripRaw 4) :=
  match v[0], v[1], v[2], v[3] with
  | some a, some b, some c, some d => some #v[a, b, c, d]
  | _, _, _, _ => none

/-- One entry has arrived; with the fourth the copies are staged and the reload ends. -/
def State.entryLoaded (s : State) (i : TripId) (r : TripRaw) : State :=
  match s.dir.reload with
  | none => s
  | some v =>
    match gathered (v.set i.val (some r) i.isLt) with
    | some raws => (s.stageCopies raws).endReload
    | none => s.setDir { s.dir with reload := some (v.set i.val (some r) i.isLt) }

/-- An entry read failed: a second attempt, then the reload ends without changing any staged copy; its other reads are
discarded (R149). -/
def State.entryFailed (s : State) (r : CtlRead) : State :=
  let t := s.dropRead r.tag
  if r.discard then t
  else if r.attempt = 1 then t.retry r
  else ((t.discardReads CtlKind.isTripEntry).endReload).raise .directoryFault

/-- TRIP_ENTRY_READ_COMPLETE (R149): a completion of the wrong length is an error status (R83). -/
def execTripEntryReadComplete (tag : Nat) (data : List Byte) (s : State) : Host.Outcome State Fault Refusal :=
  attempt (fun s =>
    match s.sentRead tag with
    | none => none
    | some r =>
      match r.kind with
      | .tripEntry i =>
        if data.length ≠ 16 then some (s.entryFailed r)
        else if r.discard then some (s.dropRead tag)
        else some ((s.dropRead tag).entryLoaded i (readTripEntry data))
      | _ => none) s

/-- TRIP_ENTRY_READ_FAIL (R149). -/
def execTripEntryReadFail (tag : Nat) (s : State) : Host.Outcome State Fault Refusal :=
  attempt (fun s =>
    match s.sentRead tag with
    | none => none
    | some r =>
      match r.kind with
      | .tripEntry _ => some (s.entryFailed r)
      | _ => none) s

end Sys2Proof.Machine
end

