-- ==== Sys2Proof/Machine/Taking.lean ====
section
/-! DEFINITION. Taking frames (section 2.5): the take and its descriptor read (R29), the frame record with its checks
(R30, R31, R32), reservations (R33), and reference list reads (R7 to R10). -/

namespace Sys2Proof.Machine

/-! ### The take (R29 to R32) -/

/-- The lane begins a take (R29), the evaluations of its last close having been made, which come before it (R131; log entry 20).
DESIGN CHOICE (log entry 22): a fault that waits for a closing sequence to end does not hold the take back, nor a FILL read or
an issue. -/
def State.mayTake (s : State) (n : LaneId) : Bool :=
  let l := s.lane n
  (l.state = .active || l.waits) && l.abort.isNone && l.window.length < Config.windowPlaces && l.taken ≠ l.fillSeen &&
    !s.inFlight (CtlKind.isDescriptor n) && s.running && !s.evaluating n

/-- TAKE_BEGIN (R29): the descriptor read of the entry at the taken count. The twin rules bear on it (R98). -/
def execTakeBegin (n : LaneId) (s : State) : Host.Outcome State Fault Refusal :=
  attempt (fun s =>
    if s.mayTake n then
      some ((s.request (.descriptor n) (slotAddr (s.lane n).settings (s.lane n).taken) 96 1).reconcile (pairOf n))
    else none) s

/-- The lane context with a new frame record at the young end of its window, the taken count one further, and the
position off the withdraw list (R29, R31). -/
def Lane.taking (l : Lane) (f : Frame) : Lane :=
  { l with
      window := l.window ++ [f]
      taken := l.taken + 1
      withdraws := l.withdraws.erase f.pos }

/-- The descriptor is taken in: the frame record is placed, and what the take decides follows (R15, R29, R97). -/
def State.takeFrame (s : State) (n : LaneId) (data : List Byte) : State :=
  let l := s.lane n
  let f := (readDescriptor data).frame l.settings.exponent l.taken (l.withdraws.contains l.taken) (s.linked n)
  let t := (s.updLane n fun l => l.taking f).settleUnreadable n f.pos
  ((t.reconcile (pairOf n)).fillCause n).laneEnd n

/-- A descriptor read failed: a second attempt, then BUS_FAULT with the taken count where it was (R29). -/
def State.descriptorFailed (s : State) (r : CtlRead) (n : LaneId) : State :=
  let t := s.dropRead r.tag
  if r.discard then t.laneEnd n
  else if r.attempt = 1 then t.retry r
  else t.fault n .busFault

/-- DESCRIPTOR_READ_COMPLETE (R29): a completion of the wrong length is an error status (R83). -/
def execDescriptorReadComplete (tag : Nat) (data : List Byte) (s : State) : Host.Outcome State Fault Refusal :=
  attempt (fun s =>
    match s.sentRead tag with
    | none => none
    | some r =>
      match r.kind with
      | .descriptor n =>
        if data.length ≠ 96 then some (s.descriptorFailed r n)
        else if r.discard then some ((s.dropRead tag).laneEnd n)
        else some ((s.dropRead tag).takeFrame n data)
      | _ => none) s

/-- DESCRIPTOR_READ_FAIL (R29). -/
def execDescriptorReadFail (tag : Nat) (s : State) : Host.Outcome State Fault Refusal :=
  attempt (fun s =>
    match s.sentRead tag with
    | none => none
    | some r =>
      match r.kind with
      | .descriptor n => some (s.descriptorFailed r n)
      | _ => none) s

/-! ### Reservations (R33) -/

/-- Check values reserved in a lane's reference store. -/
def Lane.storeUsed (l : Lane) : Nat :=
  (l.window.map fun f => (f.reservation.map List.length).getD 0).sum

/-- The frame that is granted the lane's next reservation: the first of the window that waits for one (R33). -/
def Lane.nextGrant (l : Lane) : Option Frame :=
  l.window.find? fun f => f.kind = .normal && f.ref = .waiting

/-- The frame record with its reservation granted. -/
def Frame.granted (f : Frame) : Frame :=
  { f with
      ref := .granted
      reservation := some (List.replicate f.n 0) }

/-- The frame record with its list read in flight. -/
def Frame.readingRef (f : Frame) : Frame := { f with ref := .reading }

/-- An attempt at a frame's reference list begins with its header (R7, R9). -/
def State.requestRef (s : State) (n : LaneId) (f : Frame) (attempt : Nat) : State :=
  s.request (.refHeader n f.pos) f.refAddr 16 attempt

/-- The list reads of frames that hold a reservation and have not begun theirs start (R33, R34); a FAULTED lane makes no
read of its own (R51). -/
def State.startRefs (s : State) (n : LaneId) : State :=
  if (s.lane n).closes then
    ((s.lane n).window.filter fun f => f.kind = .normal && f.ref = .granted).foldl
      (fun t f => (t.updFrame n f.pos Frame.readingRef).requestRef n f 1) s
  else s

/-- RESERVATION_GRANT (R33): granted also while quiesced; the list read then waits for the part to run (R34). -/
def execReservationGrant (n : LaneId) (s : State) : Host.Outcome State Fault Refusal :=
  attempt (fun s =>
    match (s.lane n).nextGrant with
    | none => none
    | some f =>
      if (s.lane n).storeUsed + f.n ≤ Config.storeValues && (s.lane n).closes then
        let t := s.updFrame n f.pos Frame.granted
        some (if t.running then t.startRefs n else t)
      else none) s

/-! ### Reference list reads (R7 to R10) -/

/-- Why a reference list is rejected (R8, R9). -/
inductive Rejection where
  | geometry
  | unreadable
  deriving DecidableEq, Repr

/-- The subcode of a REFERENCE_REJECTED finding (R166). -/
def Rejection.code : Rejection → Nat
  | .geometry => 1
  | .unreadable => 2

/-- The frame record of a rejected list: no reference, the reservation returned, the flag set (R8, R9). -/
def Frame.rejected (f : Frame) (why : Rejection) : Frame :=
  { f with
      ref := .absent
      reservation := none
      refGeometry := f.refGeometry || why = .geometry
      refUnreadable := f.refUnreadable || why = .unreadable }

/-- A reference list is rejected (R8, R9). -/
def State.rejectRef (s : State) (n : LaneId) (f : Frame) (why : Rejection) : State :=
  ((s.updFrame n f.pos fun g => g.rejected why).hand (referenceRejectedFinding n f why.code) (.lane n)).refOutcomeSettled
    n f.pos

/-- The next body request of an attempt, or nothing when the last value is held; `first` is its first value (R7). -/
def State.requestBody (s : State) (n : LaneId) (f : Frame) (first attempt : Nat) : State :=
  s.request (.refBody n f.pos first) (Addr.plus f.refAddr (16 + 4 * first)) (4 * bodyChunk f.n first) attempt

/-- Values copied into a reservation from value `first` on (R7). -/
def copyValues (held : List Word) (first : Nat) (vs : List Word) : List Word :=
  held.take first ++ vs ++ held.drop (first + vs.length)

/-- The frame record with values copied into its reservation. -/
def Frame.copied (f : Frame) (first : Nat) (vs : List Word) : Frame :=
  { f with reservation := f.reservation.map fun held => copyValues held first vs }

/-- The frame record with its reference complete (R7). -/
def Frame.referenced (f : Frame) : Frame := { f with ref := .present }

/-- The request of a list read that failed: the second attempt starts from the header; a second failure rejects the list.
A withdrawn frame gets neither (R9, R10). -/
def State.refFailed (s : State) (r : CtlRead) (n : LaneId) (pos : Word) : State :=
  let t := s.dropRead r.tag
  match t.frame? n pos with
  | none => t.laneEnd n
  | some f =>
    if r.discard || f.kind ≠ .normal then t.laneEnd n
    else if r.attempt = 1 then t.requestRef n f 2
    else t.rejectRef n f .unreadable

/-- The header of a list has arrived for a frame (R7, R8). A withdrawn frame's attempt runs to its end (R10). -/
def State.refHeader (s : State) (r : CtlRead) (n : LaneId) (pos : Word) (data : List Byte) : State :=
  let t := s.dropRead r.tag
  match t.frame? n pos with
  | none => t.laneEnd n
  | some f =>
    if r.discard then t.laneEnd n
    else if f.kind ≠ .normal then t.requestBody n f 0 r.attempt
    else if refHeaderAgrees data (t.lane n).settings.exponent f.n f.length then t.requestBody n f 0 r.attempt
    else t.rejectRef n f .geometry

/-- The data of a body request has arrived for a frame (R7). -/
def State.refBody (s : State) (r : CtlRead) (n : LaneId) (pos : Word) (first : Nat) (data : List Byte) : State :=
  let t := s.dropRead r.tag
  match t.frame? n pos with
  | none => t.laneEnd n
  | some f =>
    if r.discard then t.laneEnd n
    else
      let next := first + bodyChunk f.n first
      let u := if f.kind = .normal then t.updFrame n pos fun g => g.copied first (leWords data) else t
      if next < f.n then u.requestBody n f next r.attempt
      else if f.kind = .normal then (u.updFrame n pos Frame.referenced).refOutcomeSettled n pos
      else u.laneEnd n

/-- REF_HEADER_ARRIVAL (R8): a completion of the wrong length is an error status (R83). -/
def execRefHeaderArrival (tag : Nat) (data : List Byte) (s : State) : Host.Outcome State Fault Refusal :=
  attempt (fun s =>
    match s.sentRead tag with
    | none => none
    | some r =>
      match r.kind with
      | .refHeader n pos =>
        if data.length ≠ 16 then some (s.refFailed r n pos) else some (s.refHeader r n pos data)
      | _ => none) s

/-- REF_BODY_COMPLETE (R7): the data of one body request; with the last value held the frame has a reference. -/
def execRefBodyComplete (tag : Nat) (data : List Byte) (s : State) : Host.Outcome State Fault Refusal :=
  attempt (fun s =>
    match s.sentRead tag with
    | none => none
    | some r =>
      match r.kind with
      | .refBody n pos first =>
        if data.length ≠ r.len then some (s.refFailed r n pos) else some (s.refBody r n pos first data)
      | _ => none) s

/-- REF_LIST_READ_FAIL (R9). -/
def execRefListReadFail (tag : Nat) (s : State) : Host.Outcome State Fault Refusal :=
  attempt (fun s =>
    match s.sentRead tag with
    | none => none
    | some r =>
      match r.kind with
      | .refHeader n pos => some (s.refFailed r n pos)
      | .refBody n pos _ => some (s.refFailed r n pos)
      | _ => none) s

end Sys2Proof.Machine
end

