-- ==== Sys2Proof/Machine/Control.lean ====
section
/-! DEFINITION. The register window and the resets (chapter 11): CONTROL with enable, freeze and quiesce (R159 to R161,
R163), DIR_BASE (R162), ATTENTION and its mask (R157, R158), and the two resets (R164, R165). -/

namespace Sys2Proof.Machine

/-! ### Resets (R164, R165) -/

/-- A hard reset: every register and every block (R165). What has left the part has left it, requests outstanding are
abandoned, and the commands that wait still wait. -/
def State.hardReset (s : State) : State :=
  { State.reset with
      pending := s.pending
      now := s.now
      nextTag := s.nextTag
      out := s.out }

/-- A soft reset: DIR_BASE and ATTENTION_MASK are kept, and the pace clock keeps ticking (R164). -/
def State.softReset (s : State) : State :=
  { s.hardReset with
      clock := s.clock
      msi := s.msi
      regs := { Registers.reset with dirLo := s.regs.dirLo, dirHi := s.regs.dirHi, mask := s.regs.mask } }

/-- HARD_RESET (R165). -/
def execHardReset (s : State) : Host.Outcome State Fault Refusal := .next s.hardReset

/-- SOFT_RESET (R164). -/
def execSoftReset (s : State) : Host.Outcome State Fault Refusal := .next s.softReset

/-! ### Enable, freeze and quiesce (R159 to R161) -/

/-- A lane's stopped work goes on: its opening, its latched FILL read, its list reads, the end of its reel (R34, R43,
R47, R48). Takes, issues, fetch starts, mend starts, closes and latched wakes are commands of their own. -/
def State.resumeLaneWork (s : State) (n : LaneId) : State :=
  ((((s.openStep n).serveFill n).startRefs n).laneEnd n)

/-- The part runs again: every lane's stopped work goes on (R47, R160, R161). DESIGN CHOICE (log entry 49): the lanes go on in
ascending number. -/
def State.resumePart (s : State) : State :=
  if s.running then allLanes.foldl State.resumeLaneWork s else s

/-- ENABLE goes from 0 to 1: a validation when READY is clear, the resumption of a frozen part otherwise. The line may
become active (R158). -/
def State.enableSet (s : State) : State :=
  if s.regs.ready then (s.driveRegs { s.regs with enable := true, enabled := true }).resumePart
  else (s.driveRegs { s.regs with enable := true, enabled := true, dirFault := false }).validate

/-- ENABLE_SET (R159, R160). -/
def execEnableSet (s : State) : Host.Outcome State Fault Refusal :=
  attempt (fun s => if s.regs.enable then none else some s.enableSet) s

/-- ENABLE_CLEAR (R160): STATUS.ENABLED follows when the work in flight is done. -/
def execEnableClear (s : State) : Host.Outcome State Fault Refusal :=
  attempt (fun s => if s.regs.enable then some (s.driveRegs { s.regs with enable := false }) else none) s

/-- QUIESCE_SET (R161): STATUS.QUIESCED follows when nothing is in flight. -/
def execQuiesceSet (s : State) : Host.Outcome State Fault Refusal :=
  attempt (fun s => if s.regs.quiesce then none else some (s.setRegs { s.regs with quiesce := true })) s

/-- QUIESCE_CLEAR (R161). -/
def execQuiesceClear (s : State) : Host.Outcome State Fault Refusal :=
  attempt (fun s =>
    if s.regs.quiesce then some (s.setRegs { s.regs with quiesce := false, quiesced := false }).resumePart
    else none) s

/-! ### DIR_BASE (R162) -/

/-- Every lane is CLOSED. -/
def State.allClosed (s : State) : Bool := allLanes.all fun n => (s.lane n).state = .closed

/-- A write to DIR_BASE is taken (R162). -/
def State.takesDirBase (s : State) : Bool := !s.regs.enable && !s.regs.enabled && s.allClosed

/-- DIR_BASE with one register written; the low 9 bits read as 0. -/
def Registers.withDirBase (r : Registers) (high : Bool) (value : Word) : Registers :=
  if high then { r with dirHi := value } else { r with dirLo := value &&& 0xFFFFFE00#32 }

/-- The findings unit at the values of R152; findings handed over still wait, one whose STRIP_READ read was in flight
among them. -/
def FindingsUnit.emptied (u : FindingsUnit) : FindingsUnit :=
  { FindingsUnit.reset with waiting := u.disposing.toList ++ u.waiting }

/-- A DIR_BASE write that is taken. -/
def State.writeDirBase (s : State) (high : Bool) (value : Word) : State :=
  let t := (s.setRegs { s.regs.withDirBase high value with ready := false, dirFault := false }).setStrip s.strip.emptied
  { t with ctl := t.ctl.filter fun r => r.kind ≠ .stripRead }

/-- DIR_BASE_WRITE (R162). -/
def execDirBaseWrite (high : Bool) (value : Word) (s : State) : Host.Outcome State Fault Refusal :=
  attempt (fun s => if s.takesDirBase then some (s.writeDirBase high value) else none) s

/-! ### Attention (R157, R158) -/

/-- ATTENTION_WRITE (R157): each bit written as 1 clears its cause. -/
def execAttentionWrite (value : Word) (s : State) : Host.Outcome State Fault Refusal :=
  always (fun s => s.driveRegs { s.regs with attention := s.regs.attention &&& ~~~(value.setWidth 6) }) s

/-- ATTENTION_MASK_WRITE (R158). -/
def execAttentionMaskWrite (value : Word) (s : State) : Host.Outcome State Fault Refusal :=
  always (fun s => s.driveRegs { s.regs with mask := value.setWidth 6 }) s

/-- MSI_ENABLE_CHANGE (R158): no message is sent by the change itself. -/
def execMsiEnableChange (on : Bool) (s : State) : Host.Outcome State Fault Refusal :=
  always (fun s => { s with msi := on }) s

/-- REGISTER_WRITE_IGNORED (R163). -/
def execRegisterWriteIgnored (_reg : ReadOnlyReg) (_value : Word) (s : State) : Host.Outcome State Fault Refusal :=
  .next s

/-! ### CONTROL as a register (R163) -/

/-- The commands that a write of a word to CONTROL amounts to: SOFT_RESET alone when its bit is set; otherwise what
stops the part, then what starts it, then a trip reload, so that the write acts on ENABLE before the reload (R163) and
starts nothing that it also stops. -/
def controlWrite (value : Word) (s : State) : List Instr :=
  let enable := value.getLsbD 0
  let quiesce := value.getLsbD 1
  if value.getLsbD 2 then [.softReset]
  else
    (if s.regs.enable && !enable then [.enableClear] else []) ++ (if !s.regs.quiesce && quiesce then [.quiesceSet] else []) ++
      (if !s.regs.enable && enable then [.enableSet] else []) ++
        (if s.regs.quiesce && !quiesce then [.quiesceClear] else []) ++ if value.getLsbD 3 then [.tripReload] else []

end Sys2Proof.Machine
end

