-- ==== Sys2Proof/Machine/Issue.lean ====
section
/-! DEFINITION. Issuing stripe work (R77, R78) and the issue of a linked pair under the leader's permits (R100): what a
lane or a pair would place next, whether the board takes it now, and the placing. -/

namespace Sys2Proof.Machine

/-- What an issue places: one stripe index, on the frame of one lane, or on both frames of a paired item. -/
structure Issue where
  /-- The lane whose issue it is: the leader for a paired issue, else the lane of the entry (R74, R77). -/
  issuer : LaneId
  /-- The lane whose permit it uses: the leader for a linked pair (R100). -/
  payer : LaneId
  stripe : Nat
  /-- The lane and the position of each entry it places. -/
  places : List (LaneId × Word)
  deriving DecidableEq, Repr

/-- The lane holds a permit, or it is unpaced (R60, R62). -/
def Lane.permitted (l : Lane) : Bool := l.settings.paceReload = 0 || l.pacing.permit

/-- A lane's issue frame: the oldest normal frame with stripes left to issue, its reference outcome settled (R78). A
frame whose reference outcome is pending holds back every later frame, be all its own stripes unreadable (R10, R33; log
entry 41). -/
def Lane.issueFrame (l : Lane) : Option Frame :=
  (l.window.find? fun f => f.kind = .normal && (f.cursor < f.n || !f.refSettled)).filter Frame.refSettled

/-- No frame of the lane's window older than the one at `pos` has a reference outcome that is pending: one that has holds
back every later frame (R10). -/
def Lane.clearTo (l : Lane) (pos : Word) : Bool :=
  (l.window.takeWhile fun f => f.pos ≠ pos).all fun f => f.kind ≠ .normal || f.refSettled

/-- The lane's quota has room (R73). -/
def State.quotaRoom (s : State) (n : LaneId) : Bool := s.quotaCount n < Config.laneQuota

/-- The lane issues in its state (R77). -/
def Lane.issuesAlone (l : Lane) : Bool := (l.state = .active || l.state = .draining) && l.abort.isNone

/-- The lane takes its part of a paired issue in its state (R100). -/
def Lane.issuesPaired (l : Lane) : Bool := (l.state = .active || l.state = .draining || l.waits) && l.abort.isNone

/-- The issue of a lane that is not linked (R77). -/
def State.soloIssue (s : State) (n : LaneId) : Option Issue :=
  let l := s.lane n
  if l.issuesAlone && l.permitted && s.quotaRoom n then l.issueFrame.map fun f => ⟨n, n, f.cursor, [(n, f.pos)]⟩ else none

/-- The issue of a solo item of a linked pair (R100), no older frame of its lane holding it back (R10). DESIGN CHOICE (log entry
53): R77's conditions are asked of the item's own lane alone, so a follower-solo item goes on while the leader is PAUSED. -/
def State.itemSolo (s : State) (p : PairId) (n : LaneId) (pos : Word) : Option Issue :=
  match s.frame? n pos with
  | some f =>
    if (s.lane n).issuesAlone && s.quotaRoom n && (s.lane n).clearTo pos && f.refSettled then
      some ⟨n, leader p, f.cursor, [(n, pos)]⟩
    else none
  | none => none

/-- A lane that receives an entry of a paired stripe, for its frame at `pos`, can take it (R100), no older frame of it holding
that frame back (R10; log entry 41). -/
def State.takesPaired (s : State) (n : LaneId) (pos : Word) : Bool :=
  (s.lane n).issuesPaired && s.quotaRoom n && (s.lane n).clearTo pos

/-- The issue of a paired item: the lowest stripe not yet issued that is readable on at least one side, on every side
where it is readable (R100). -/
def State.itemPaired (s : State) (p : PairId) (lp fp : Word) : Option Issue :=
  match s.frame? (leader p) lp, s.frame? (follower p) fp with
  | some a, some b =>
    let j := min a.cursor b.cursor
    let onLeader := a.cursor = j
    let onFollower := b.cursor = j
    if a.refSettled && b.refSettled && (!onLeader || s.takesPaired (leader p) lp) &&
        (!onFollower || s.takesPaired (follower p) fp) then
      some ⟨leader p, leader p, j,
        (if onLeader then [(leader p, lp)] else []) ++ if onFollower then [(follower p, fp)] else []⟩
    else none
  | _, _ => none

/-- The current item of a pair issue queue: the oldest that still has stripes to issue (R100). -/
def State.currentItem (s : State) (p : PairId) : Option PairItem := (s.link p).queue.find? (s.itemLive p)

/-- The issue of a linked pair under a permit of the leader (R100). DESIGN CHOICE (log entry 53): no state of the leader is asked
for, so a permit that it has held since a PAUSE before the link formed may serve a follower-solo item before RESUME, where the
PAUSE row of R63 speaks of the first CHECK issue after RESUME. -/
def State.pairIssue (s : State) (p : PairId) : Option Issue :=
  if (s.link p).linked && (s.lane (leader p)).permitted then
    match s.currentItem p with
    | some (.both lp fp) => s.itemPaired p lp fp
    | some (.leaderSolo pos) => s.itemSolo p (leader p) pos
    | some (.followerSolo pos) => s.itemSolo p (follower p) pos
    | none => none
  else none

/-- What a lane, or the linked pair it belongs to, waits to issue. -/
def State.nextIssue (s : State) (n : LaneId) : Option Issue :=
  if s.linked n then s.pairIssue (pairOf n) else s.soloIssue n

/-- What a lane waits to issue as its own: a paired issue counts as its leader's, a solo item's as that of its lane
(R77). -/
def State.want (s : State) (n : LaneId) : Option Issue := (s.nextIssue n).filter fun i => i.issuer = n

/-- Board places that hold no entry (R73). -/
def State.boardRoom (s : State) : Nat := Config.boardPlaces - s.board.length

/-- The places a lane's issue needs. -/
def State.needs (s : State) (n : LaneId) : Nat := ((s.want n).map fun i => i.places.length).getD 0

/-- The places that all issues that wait need. -/
def State.demand (s : State) : Nat := (allLanes.map s.needs).sum

/-- The lane whose issue the board takes next when it has no room for all: the first in turn whose issue fits (R77). -/
def State.issueTurn (s : State) : Option LaneId :=
  (lanesFrom s.arbiter.issueNext).find? fun n => 0 < s.needs n && s.needs n ≤ s.boardRoom

/-- The board takes the issue now (R77). -/
def State.takesIssue (s : State) (i : Issue) : Bool :=
  !i.places.isEmpty && s.running && i.places.length ≤ s.boardRoom &&
    (s.demand ≤ s.boardRoom || s.issueTurn = some i.issuer)

/-- A new CHECK entry for a stripe of a frame (R74, R77). -/
def newEntry (e : Nat) (n : LaneId) (f : Frame) (i : Nat) (partner : Option Word) : Entry where
  lane := n
  pos := f.pos
  stripe := i
  src := Addr.plus f.buffer (stripeStart e i)
  len := stripeLen e f.length i
  purpose := .check
  first := none
  current := none
  partner := partner
  discard := false
  state := .queued
  outcome := none

/-- The frame record with its issue cursor past a stripe (R78). -/
def Frame.issued (f : Frame) (i : Nat) : Frame := { f with cursor := nextReadable f.stripes (i + 1) }

/-- One entry is placed on the board, and its frame's cursor moves on. -/
def State.placeEntry (s : State) (n : LaneId) (pos : Word) (i : Nat) (partner : Option Word) : State :=
  match s.frame? n pos with
  | some f =>
    (s.addEntry (newEntry (s.lane n).settings.exponent n f i partner)).updFrame n pos fun g => g.issued i
  | none => s

/-- The entries of an issue are placed; two of them are partners (R77, R100). -/
def State.placeAll (s : State) (i : Issue) : State :=
  match i.places with
  | [(n, pos)] => s.placeEntry n pos i.stripe none
  | [(n, pos), (m, q)] => (s.placeEntry n pos i.stripe (some q)).placeEntry m q i.stripe (some pos)
  | _ => s

/-- The lane's held permit is used (R62). -/
def Lane.usePermit (l : Lane) : Lane := { l with pacing := { l.pacing with permit := false } }

/-- The issue is carried out: its entries, the permit, the issue round-robin, and what follows for the pair. -/
def State.carryIssue (s : State) (i : Issue) : State :=
  let t := (s.placeAll i).updLane i.payer Lane.usePermit
  ({ t with arbiter := { t.arbiter with issueNext := i.issuer + 1 } }).reconcile (pairOf i.issuer)

/-- CHECK_ISSUE (R77): the next stripe of a lane's issue frame; in a linked pair, the next stripe of the current item
when it is placed on this lane alone (R100). -/
def execCheckIssue (n : LaneId) (s : State) : Host.Outcome State Fault Refusal :=
  attempt (fun s =>
    match s.nextIssue n with
    | some i => if i.places.map Prod.fst = [n] && s.takesIssue i then some (s.carryIssue i) else none
    | none => none) s

/-- PAIRED_ISSUE (R100): the next stripe of a linked pair's current item. -/
def execPairedIssue (p : PairId) (s : State) : Host.Outcome State Fault Refusal :=
  attempt (fun s =>
    match s.pairIssue p with
    | some i => if s.takesIssue i then some (s.carryIssue i) else none
    | none => none) s

end Sys2Proof.Machine
end

