-- ==== Sys2Proof/Machine/Mending.lean ====
section
/-! DEFINITION. The mend engine's commands (chapter 7): the start of a request (R114), data that arrives for it (R115,
R116), and failures (R117, R120). -/

namespace Sys2Proof.Machine

/-- A finding of the mend engine waits for the findings unit: the engine goes on when it has been disposed of (R155). -/
def State.mendReports (s : State) : Bool :=
  s.reporting .mendEngine

/-- MEND_START (R114): the oldest request becomes active. -/
def execMendStart (s : State) : Host.Outcome State Fault Refusal :=
  attempt (fun s =>
    match s.mender.queue.head? with
    | some q =>
      if s.mender.engine = .idle && s.running && !s.mendReports then some (s.setEngine (.copying (Copy.start q 1)))
      else none
    | none => none) s

/-- The lanes aborted from FAULTED that waited for a stopping mend (R49). DESIGN CHOICE (log entry 49): when it lets both its
lanes end, the one of the lower number ends first. -/
def State.bareEnds (s : State) : State := allLanes.foldl State.bareTry s

/-- The active request's copy after data has arrived for it: the bytes absorbed are written to the mend buffer, block by
block (R115). -/
def State.mendReceives (s : State) (q : MendReq) (c : Copy) (tag : Nat) (addr : Addr) (data : List Byte) : State :=
  let r := c.stream.receive tag addr data
  let w := copyBytes q s c.stream.absorbed c.block r.2
  w.1.mendAdvanced q { c with stream := r.1, block := if r.1.failed then [] else w.2 }

/-- MEND_COMPLETION (R115): a stopping engine throws the data away (R120). -/
def execMendCompletion (tag : Nat) (addr : Addr) (data : List Byte) (s : State) : Host.Outcome State Fault Refusal :=
  attempt (fun s =>
    match s.mender.engine, s.mender.queue.head? with
    | .copying c, some q =>
      if c.stream.holds tag then some (s.mendReceives q c tag addr data).bareEnds else none
    | .stopping rs, some q =>
      if rs.any (fun r => r.tag = tag) then
        some (s.mendStopped (discardReq rs tag (addr - q.src).toNat data.length)).bareEnds
      else none
    | _, _ => none) s

/-- MEND_REQUEST_FAIL (R117). -/
def execMendRequestFail (tag : Nat) (s : State) : Host.Outcome State Fault Refusal :=
  attempt (fun s =>
    match s.mender.engine, s.mender.queue.head? with
    | .copying c, some q =>
      if c.stream.holds tag then
        some (s.mendAdvanced q { c with stream := c.stream.failReq tag, block := [] }).bareEnds
      else none
    | .stopping rs, some _ =>
      if rs.any (fun r => r.tag = tag) then some (s.mendStopped (dropReq rs tag)).bareEnds else none
    | _, _ => none) s

end Sys2Proof.Machine
end

