-- ==== Sys2Proof/Machine/Pace.lean ====
section
/-! DEFINITION. The pacing timer (chapter 4): when the counters run (R58, R66, R68), the underflow of the pace counter
with its permit and the fine extension (R59, R61, R62), the poll expiry (R66), the starve measurement with its STALL
finding (R68, R69), and what one tick of the pace clock does (R57). -/

namespace Sys2Proof.Machine

/-! ### When the counters run -/

/-- The lane's pace counter runs (R58, R60): a follower's is stopped while it is paired (R65). -/
def State.paceRuns (s : State) (n : LaneId) : Bool :=
  let l := s.lane n
  (l.state = .active || l.state = .starved || l.state = .draining) && l.abort.isNone &&
    !(isFollower n && s.linked n) && l.settings.paceReload ≠ 0 && s.running

/-- The lane's poll counter and starve measurement run (R66, R68). -/
def State.starveRuns (s : State) (n : LaneId) : Bool :=
  (s.lane n).state = .starved && (s.lane n).abort.isNone && s.running

/-! ### The pace counter (R59, R61, R62) -/

/-- Period `g` of a group is lengthened by one extra tick (R61). -/
def lengthened (g fine : Nat) : Bool := (g - 1) * fine / 16 < g * fine / 16

/-- The fine group index after `g`: from 16 it returns to 1 (R61). -/
def nextGroup (g : Nat) : Nat := if g < 16 then g + 1 else 1

/-- An underflow: a permit when none is held, the reload, the next group index (R59, R62). -/
def Pacing.underflow (p : Pacing) (reload : Nat) : Pacing :=
  { p with
      count := reload
      group := nextGroup p.group
      extraSpent := false
      permit := true }

/-- The tick that finds the pace counter at 0: the extra tick of a lengthened period is spent, or the period ends with
an underflow (R59, R61). -/
def Pacing.atZero (p : Pacing) (c : Settings) : Pacing :=
  if lengthened p.group c.paceFine && !p.extraSpent then { p with count := 0, extraSpent := true }
  else p.underflow c.paceReload

/-- The lane's pace counter meets the tick that finds it at 0. -/
def Lane.paceAtZero (l : Lane) : Lane := { l with pacing := l.pacing.atZero l.settings }

/-- One tick of a running pace counter (R59). -/
def Lane.paceTick (l : Lane) : Lane :=
  if 0 < l.pacing.count then { l with pacing := { l.pacing with count := l.pacing.count - 1 } } else l.paceAtZero

/-- PACE_UNDERFLOW (R59): the tick that finds the lane's running pace counter at 0. -/
def execPaceUnderflow (n : LaneId) (s : State) : Host.Outcome State Fault Refusal :=
  attempt (fun s => if s.paceRuns n then some (s.updLane n Lane.paceAtZero) else none) s

/-! ### The poll counter (R66) -/

/-- The poll counter reloaded (R66). -/
def Lane.pollReload (l : Lane) : Lane :=
  { l with pacing := { l.pacing with poll := l.settings.pollInterval * Config.pollUnit } }

/-- The poll counter expires: it reloads, and the expiry is a cause for a FILL read (R27, R66). -/
def State.pollExpires (s : State) (n : LaneId) : State := (s.updLane n Lane.pollReload).fillCause n

/-- One tick of a running poll counter (R66). -/
def State.pollTick (s : State) (n : LaneId) : State :=
  if 1 < (s.lane n).pacing.poll then
    s.updLane n fun l => { l with pacing := { l.pacing with poll := l.pacing.poll - 1 } }
  else s.pollExpires n

/-- POLL_EXPIRY (R66). -/
def execPollExpiry (n : LaneId) (s : State) : Host.Outcome State Fault Refusal :=
  attempt (fun s => if s.starveRuns n then some (s.pollExpires n) else none) s

/-! ### The starve measurement (R68, R69) -/

/-- The measurement reaches the reel's STARVE_LIMIT and has not been reported (R69). -/
def Lane.stalls (l : Lane) : Bool :=
  l.settings.starveLimit ≠ 0 && l.settings.starveLimit ≤ l.pacing.starveMs && !l.pacing.reported

/-- One millisecond more, saturating (R68). -/
def Lane.starveMsMore (l : Lane) : Lane :=
  { l with pacing := { l.pacing with starveMs := saturate (l.pacing.starveMs + 1) } }

/-- The starve has been reported (R69). -/
def Lane.stallReported (l : Lane) : Lane := { l with pacing := { l.pacing with reported := true } }

/-- A millisecond of the starve measurement, with the STALL finding when it reaches the limit (R68, R69). -/
def State.starveMs (s : State) (n : LaneId) : State :=
  let t := s.updLane n Lane.starveMsMore
  if (t.lane n).stalls then (t.hand (stallFinding n (t.lane n)) (.lane n)).updLane n Lane.stallReported else t

/-- One tick of a running starve measurement: each 1,000 add a millisecond (R68). -/
def State.starveTick (s : State) (n : LaneId) : State :=
  if (s.lane n).pacing.starveSub + 1 < Config.ticksPerMs then
    s.updLane n fun l => { l with pacing := { l.pacing with starveSub := l.pacing.starveSub + 1 } }
  else (s.updLane n fun l => { l with pacing := { l.pacing with starveSub := 0 } }).starveMs n

/-- STARVE_MS_TICK (R68): one whole millisecond more of the starve, counted by its 1,000 ticks. -/
def execStarveMsTick (n : LaneId) (s : State) : Host.Outcome State Fault Refusal :=
  attempt (fun s => if s.starveRuns n then some (s.starveMs n) else none) s

/-! ### The pace clock (R57) -/

/-- A tick at one lane. -/
def State.laneTick (s : State) (n : LaneId) : State :=
  let t := if s.paceRuns n then s.updLane n Lane.paceTick else s
  if t.starveRuns n then (t.pollTick n).starveTick n else t

/-- The read requests that have not completed within 50 ms of being sent, as the FAIL commands they make due (R19, R27,
R29, R38, R83, R117, R149, R154, R159). -/
def CtlKind.failure (tag : Nat) : CtlKind → Instr
  | .dirHeader => .directoryHeaderReadFail tag
  | .tripEntry _ => .tripEntryReadFail tag
  | .stripRead => .stripReadFail tag
  | .laneEntry _ => .laneEntryReadFail tag
  | .sheetHeader _ => .sheetHeaderReadFail tag
  | .fill _ => .fillReadFail tag
  | .descriptor _ => .descriptorReadFail tag
  | .refHeader _ _ => .refListReadFail tag
  | .refBody _ _ _ => .refListReadFail tag

/-- The request was sent 50 ms ago or earlier. -/
def State.overdue (s : State) (sentAt : Nat) : Bool := Config.timeoutTicks ≤ s.clock - sentAt

/-- The overdue requests of a stream's outstanding set. -/
def State.overdueReqs (s : State) (rs : List ReadReq) : List Nat :=
  (rs.filter fun r => s.overdue r.sentAt).map ReadReq.tag

/-- The outstanding requests of a digest context. -/
def State.ctxOutstanding (s : State) (c : CtxId) : List ReadReq :=
  match s.ctx c with
  | some f => f.stream.outstanding
  | none => []

/-- Every time-out that is due, as commands. DESIGN CHOICE (log entry 6): of those that fall due on one tick the control
reads come first, in the order in which they began to wait, then the digest contexts 0 to 3 and then the mend engine, each
in the order of sending. -/
def State.timeouts (s : State) : List Instr :=
  ((s.ctl.filter fun r => r.sent && s.overdue r.sentAt).map fun r => r.kind.failure r.tag) ++
    (allCtxs.flatMap fun c => (s.overdueReqs (s.ctxOutstanding c)).map .fetchRequestFail) ++
      (s.overdueReqs s.mender.engine.outstanding).map .mendRequestFail

/-- One tick of the pace clock on an empty command queue: the timers count, and the time-outs that fall due become the
waiting commands. -/
def State.tick (s : State) : State :=
  let t := allLanes.foldl State.laneTick { s.began with clock := s.clock + 1 }
  { t with pending := t.timeouts }

end Sys2Proof.Machine
end

