-- ==== Sys2Proof/Machine/Port.lean ====
section
/-! DEFINITION. The read port (sections 5.3 and 5.4): the arbiter's grants (R79), fetch starts (R80), and what a stripe
fetch's completions and failures do (R81 to R84). -/

namespace Sys2Proof.Machine

/-! ### Grants (R79) -/

/-- Control reads that wait for the port. -/
def State.waitingReads (s : State) : List CtlRead := s.ctl.filter fun r => !r.sent

/-- The control reads that may be granted: those that began to wait first. -/
def oldestReads : List CtlRead → List CtlRead
  | [] => []
  | r :: rs => (r :: rs).filter fun q => q.since = r.since

/-- The control read that is granted; `pick` is the manual's free order among those that began waiting together. -/
def State.nextRead (s : State) (pick : Nat) : Option CtlRead :=
  (oldestReads s.waitingReads)[pick % (oldestReads s.waitingReads).length]?

/-- A control read is sent, its completion timer starting now. -/
def State.sendRead (s : State) (r : CtlRead) : State :=
  { s with ctl := s.ctl.map fun q => if q.tag = r.tag then { q with sent := true, sentAt := s.clock } else q }

/-- A digest context has a request ready (R81). -/
def State.ctxReady (s : State) (c : CtxId) : Bool := (s.ctx c).any fun f => f.stream.ready

/-- The context that is served next within the stripe class (R79). -/
def State.nextCtx (s : State) : Option CtxId := (ctxsFrom s.arbiter.ctxNext).find? s.ctxReady

/-- The mend engine has a request ready (R115). -/
def Engine.ready : Engine → Bool
  | .idle => false
  | .copying c => c.stream.ready
  | .stopping _ => false

/-- A grant to a digest context (R79, R81). -/
def State.grantCtx (s : State) (c : CtxId) : State :=
  match s.ctx c with
  | some f =>
    { s.setCtx c (some { f with stream := f.stream.send s.nextTag s.clock }) with
        nextTag := s.nextTag + 1
        arbiter := { s.arbiter with ctxNext := c + 1, lastMend := false } }
  | none => s

/-- A grant to the mend engine (R79, R115). -/
def State.grantMend (s : State) : State :=
  match s.mender.engine with
  | .copying c =>
    { s.setEngine (.copying { c with stream := c.stream.send s.nextTag s.clock }) with
        nextTag := s.nextTag + 1
        arbiter := { s.arbiter with lastMend := true } }
  | _ => s

/-- The grant between the stripe class and the mend class (R79). -/
def State.grantData (s : State) : Option State :=
  match s.nextCtx, s.mender.engine.ready with
  | some c, true => some (if s.arbiter.lastMend then s.grantCtx c else s.grantMend)
  | some c, false => some (s.grantCtx c)
  | none, true => some s.grantMend
  | none, false => none

/-- ARBITER_GRANT (R79): control first, then stripe and mend in alternation. -/
def execArbiterGrant (pick : Nat) (s : State) : Host.Outcome State Fault Refusal :=
  attempt (fun s =>
    match s.nextRead pick with
    | some r => some (s.sendRead r)
    | none => s.grantData) s

/-! ### Fetch starts (R80) -/

/-- The lane whose head entry is started next (R80). -/
def State.nextFetchLane (s : State) : Option LaneId :=
  (lanesFrom s.arbiter.fetchNext).find? fun n => (s.headEntry n).isSome

/-- A head entry is bound to a free digest context (R80, R81). -/
def State.startFetch (s : State) (c : CtxId) (e : Entry) : State :=
  let t := (s.updEntry e.lane e.pos e.stripe fun e => { e with state := .fetching }).setCtx c
    (some ⟨e.lane, e.pos, e.stripe, Stream.start e.src e.len⟩)
  { t with arbiter := { t.arbiter with fetchNext := e.lane + 1 } }

/-- FETCH_START (R80). -/
def execFetchStart (c : CtxId) (s : State) : Host.Outcome State Fault Refusal :=
  attempt (fun s =>
    if (s.ctx c).isNone && s.running then (s.nextFetchLane.bind s.headEntry).map (s.startFetch c) else none) s

/-! ### Completions (R82 to R84) -/

/-- The digest context that holds the request with that tag. -/
def State.ctxOf (s : State) (tag : Nat) : Option CtxId :=
  allCtxs.find? fun c => (s.ctx c).any fun f => f.stream.holds tag

/-- A fetch ends with a value or failed: the context is free, the board handles the entry, and an abort that waited for
it may end (R49, R84). -/
def State.endFetch (s : State) (c : CtxId) (f : Fetch) (value : Option Word) : State :=
  ((s.setCtx c none).fetchEnded f.lane f.pos f.stripe value).laneEnd f.lane

/-- A context's stream after something of it has arrived or failed (R82, R83, R84). -/
def State.fetchAdvanced (s : State) (c : CtxId) (f : Fetch) (t : Stream) : State :=
  match t.value? with
  | some v => s.endFetch c f (some v)
  | none => if t.drained then s.endFetch c f none else s.setCtx c (some { f with stream := t })

/-- FETCH_COMPLETION (R82). -/
def execFetchCompletion (tag : Nat) (addr : Addr) (data : List Byte) (s : State) : Host.Outcome State Fault Refusal :=
  attempt (fun s =>
    match s.ctxOf tag with
    | none => none
    | some c => (s.ctx c).map fun f => s.fetchAdvanced c f (f.stream.receive tag addr data).1) s

/-- FETCH_REQUEST_FAIL (R83). -/
def execFetchRequestFail (tag : Nat) (s : State) : Host.Outcome State Fault Refusal :=
  attempt (fun s =>
    match s.ctxOf tag with
    | none => none
    | some c => (s.ctx c).map fun f => s.fetchAdvanced c f (f.stream.failReq tag)) s

end Sys2Proof.Machine
end

