-- ==== Sys2Proof/Machine/Recalls.lean ====
section
/-! DEFINITION. Recalls (section 3.7): the position a RECALL write names (R52), its outcome (R53), and the withdraw list
(R55). -/

namespace Sys2Proof.Machine

/-- The lane a RECALL write names: bits 31:29 (R52). -/
def recallLane (w : Word) : LaneId := ⟨w.toNat / 2 ^ 29, by omega⟩

/-- D: the low 16 bits of DRAIN subtracted from the 16 written bits, read as a signed number (R52). -/
def recallOffset (w drain : Word) : BitVec 16 := w.setWidth 16 - drain.setWidth 16

/-- D is negative: P is before DRAIN. -/
def recallBefore (w drain : Word) : Bool := (recallOffset w drain).msb

/-- P = DRAIN + D, modulo 2^32 (R52). -/
def recallPosition (w drain : Word) : Word := drain + (recallOffset w drain).signExtend 32

/-- The distance of a position beyond DRAIN. -/
def Lane.beyond (l : Lane) (pos : Word) : Nat := (pos - l.drain).toNat

/-- A new position at its place in ascending ring order (R55). -/
def Lane.listWithdraw (l : Lane) (pos : Word) : List Word :=
  (l.withdraws.takeWhile fun q => l.beyond q < l.beyond pos) ++
    pos :: l.withdraws.dropWhile fun q => l.beyond q < l.beyond pos

/-- A refused recall (R52). -/
def State.recallRefused (s : State) : State := s.raise .recallRefused

/-- A late recall: its finding and nothing else (R53). -/
def State.recallLate (s : State) (n : LaneId) (pos : Word) : State :=
  s.hand (recallLateFinding n pos (s.lane n).drain) (.lane n)

/-- The lane refuses every recall: CLOSED, FAULTED, aborting, or in OPENING before its DRAIN write (R53). -/
def Lane.refusesRecall (l : Lane) : Bool :=
  l.state = .closed || l.state = .faulted || l.abort.isSome || (l.state = .opening && l.opening ≠ .fillRead)

/-- The position is being taken: it equals the taken count, and the lane's descriptor read is in flight (R34, R53). -/
def State.beingTaken (s : State) (n : LaneId) (pos : Word) : Bool :=
  pos = (s.lane n).taken && s.inFlight (CtlKind.isDescriptor n)

/-- A recall of a position that has not been taken, D being from the taken count on (R53). A DRAINING lane refuses it, but for
the position being taken, which enters the withdraw list in every state (R34 and the last words of R53; DEDUCED, log entry
46). -/
def State.recallAhead (s : State) (n : LaneId) (pos : Word) : State :=
  let l := s.lane n
  if 2 ^ l.settings.ringLog ≤ l.beyond pos || l.state = .draining && !s.beingTaken n pos then s.recallRefused
  else if pos ∈ l.withdraws then s
  else if l.withdraws.length < Config.withdrawPlaces then
    s.updLane n fun l => { l with withdraws := l.listWithdraw pos }
  else s.recallRefused

/-- A recall of a frame of the window (R53). -/
def State.recallFrame (s : State) (n : LaneId) (f : Frame) : State :=
  if s.closingFrame n f.pos then s.recallLate n f.pos
  else
    match f.kind with
    | .withdrawn => s
    | .normal => s.withdrawFrame n f
    | .malformed => s.withdrawFrame n f

/-- The outcome of a recall request to lane `n` (R53). -/
def State.judgeRecall (s : State) (n : LaneId) (w : Word) : State :=
  let l := s.lane n
  let pos := recallPosition w l.drain
  if l.refusesRecall then s.recallRefused
  else if recallBefore w l.drain then s.recallLate n pos
  else
    match s.frame? n pos with
    | some f => s.recallFrame n f
    | none => s.recallAhead n pos

/-- RECALL (R52): the register keeps the written value, and the lane takes the request. -/
def execRecall (value : Word) (s : State) : Host.Outcome State Fault Refusal :=
  always (fun s => (s.setRegs { s.regs with recallReg := value }).judgeRecall (recallLane value) value) s

end Sys2Proof.Machine
end

