-- ==== Sys2Proof/Machine/Dispatch.lean ====
section
/-! DEFINITION. The meaning of every command: one arm for each row of spec/opcode_table.json, one direct call each. -/

namespace Sys2Proof.Machine

def exec (i : Instr) (s : State) : Host.Outcome State Fault Refusal :=
  match i with
  | .hardReset => Sys2Proof.Machine.execHardReset s
  | .softReset => Sys2Proof.Machine.execSoftReset s
  | .enableSet => Sys2Proof.Machine.execEnableSet s
  | .enableClear => Sys2Proof.Machine.execEnableClear s
  | .quiesceSet => Sys2Proof.Machine.execQuiesceSet s
  | .quiesceClear => Sys2Proof.Machine.execQuiesceClear s
  | .tripReload => Sys2Proof.Machine.execTripReload s
  | .tripReloadLatchedStart => Sys2Proof.Machine.execTripReloadLatchedStart s
  | .dirBaseWrite high value => Sys2Proof.Machine.execDirBaseWrite high value s
  | .wake value => Sys2Proof.Machine.execWake value s
  | .latchedWakeServe lane => Sys2Proof.Machine.execLatchedWakeServe lane s
  | .recallWrite value => Sys2Proof.Machine.execRecall value s
  | .attentionWrite value => Sys2Proof.Machine.execAttentionWrite value s
  | .attentionMaskWrite value => Sys2Proof.Machine.execAttentionMaskWrite value s
  | .registerWriteIgnored reg value => Sys2Proof.Machine.execRegisterWriteIgnored reg value s
  | .directoryHeaderReadComplete tag data => Sys2Proof.Machine.execDirectoryHeaderReadComplete tag data s
  | .directoryHeaderReadFail tag => Sys2Proof.Machine.execDirectoryHeaderReadFail tag s
  | .sequenceUnchanged tag => Sys2Proof.Machine.execSequenceUnchanged tag s
  | .openReel tag seq sheet => Sys2Proof.Machine.execOpen tag seq sheet s
  | .pauseReel tag seq => Sys2Proof.Machine.execPause tag seq s
  | .resumeReel tag seq => Sys2Proof.Machine.execResume tag seq s
  | .closeReel tag seq => Sys2Proof.Machine.execClose tag seq s
  | .abortReel tag seq => Sys2Proof.Machine.execAbort tag seq s
  | .unknownCommand tag seq code => Sys2Proof.Machine.execUnknownCommand tag seq code s
  | .laneEntryReadFail tag => Sys2Proof.Machine.execLaneEntryReadFail tag s
  | .sheetHeaderReadComplete tag data => Sys2Proof.Machine.execSheetHeaderReadComplete tag data s
  | .sheetHeaderReadFail tag => Sys2Proof.Machine.execSheetHeaderReadFail tag s
  | .fillReadComplete tag value => Sys2Proof.Machine.execFillReadComplete tag value s
  | .fillReadFail tag => Sys2Proof.Machine.execFillReadFail tag s
  | .takeBegin lane => Sys2Proof.Machine.execTakeBegin lane s
  | .descriptorReadComplete tag data => Sys2Proof.Machine.execDescriptorReadComplete tag data s
  | .descriptorReadFail tag => Sys2Proof.Machine.execDescriptorReadFail tag s
  | .reservationGrant lane => Sys2Proof.Machine.execReservationGrant lane s
  | .refHeaderArrival tag data => Sys2Proof.Machine.execRefHeaderArrival tag data s
  | .refBodyComplete tag data => Sys2Proof.Machine.execRefBodyComplete tag data s
  | .refListReadFail tag => Sys2Proof.Machine.execRefListReadFail tag s
  | .paceUnderflow lane => Sys2Proof.Machine.execPaceUnderflow lane s
  | .pollExpiry lane => Sys2Proof.Machine.execPollExpiry lane s
  | .starveMsTick lane => Sys2Proof.Machine.execStarveMsTick lane s
  | .checkIssue lane => Sys2Proof.Machine.execCheckIssue lane s
  | .pairedIssue pair => Sys2Proof.Machine.execPairedIssue pair s
  | .arbiterGrant pick => Sys2Proof.Machine.execArbiterGrant pick s
  | .fetchStart ctx => Sys2Proof.Machine.execFetchStart ctx s
  | .fetchCompletion tag addr data => Sys2Proof.Machine.execFetchCompletion tag addr data s
  | .fetchRequestFail tag => Sys2Proof.Machine.execFetchRequestFail tag s
  | .mendStart => Sys2Proof.Machine.execMendStart s
  | .mendCompletion tag addr data => Sys2Proof.Machine.execMendCompletion tag addr data s
  | .mendRequestFail tag => Sys2Proof.Machine.execMendRequestFail tag s
  | .closeBegin lane => Sys2Proof.Machine.execCloseBegin lane s
  | .findingDispose pick => Sys2Proof.Machine.execFindingDispose pick s
  | .stripReadComplete tag value => Sys2Proof.Machine.execStripReadComplete tag value s
  | .stripReadFail tag => Sys2Proof.Machine.execStripReadFail tag s
  | .tripEntryReadComplete tag data => Sys2Proof.Machine.execTripEntryReadComplete tag data s
  | .tripEntryReadFail tag => Sys2Proof.Machine.execTripEntryReadFail tag s
  | .msiEnableChange on => Sys2Proof.Machine.execMsiEnableChange on s

end Sys2Proof.Machine
end

