-- ==== Sys2Proof/Safety.lean ====
section
/-! DEFINITION. What counts as a safe state of the part, in the terms the statements use: STATUS follows CONTROL (R160,
R161, R162), the stripe board keeps within its bounds (R73), the control reads stand in order (R79), every lane's numbers
keep their ranges (R22, R55, R61, R130, R139, R140), a lane's window holds the frames between its DRAIN and its taken
count (R24), the counts of every lane stand in order and within its ring (R24), the withdraw list stands ahead of the taken
count (R31, R55), the strip is never overfilled (R152), the mend queue keeps its places (R113), and what waits for a twin
belongs to a linked pair (R94). Then the words the statements say a command's effect in: the writes by their addresses and
bytes, the control reads a command begins, the message a change of the registers sends, and the bytes a stream has read. -/

namespace Sys2Proof.Machine

/-- STATUS has followed CONTROL: a quiesce with nothing left in flight has QUIESCED set (R161), and a freeze with nothing
left in flight has ENABLED clear (R160). -/
def State.Settled (s : State) : Prop :=
  (s.regs.quiesce = true → s.idle = true → s.regs.quiesced = true) ∧
    (s.regs.enable = false → s.idle = true → s.regs.enabled = false)

/-- The registers agree with one another: DIR_BASE lies on a 512-byte boundary (R162), QUIESCED is set only under QUIESCE
(R161), ENABLED is set while ENABLE is (R160), and TRIP_RELOAD_BUSY says that a reload is in progress (R149). -/
structure State.RegistersAgree (s : State) : Prop where
  aligned : s.regs.dirLo.toNat % 512 = 0
  quiesced : s.regs.quiesced = true → s.regs.quiesce = true
  enabled : s.regs.enable = true → s.regs.enabled = true
  reloading : s.regs.reloadBusy = s.dir.reload.isSome

/-- The stripe board holds at most 32 entries, and at most 8 of any one lane (R73). -/
def State.BoardBounded (s : State) : Prop :=
  s.board.length ≤ Config.boardPlaces ∧ ∀ n : LaneId, s.quotaCount n ≤ Config.laneQuota

/-- Settings within the ranges R21 and R22 leave them. -/
structure Settings.InRange (c : Settings) : Prop where
  exponent : c.exponent ≤ 20
  ringLog : c.ringLog ≤ 12
  paceFine : c.paceFine ≤ 15
  avgSamples : c.avgSamples ≤ 64
  window : c.window ≤ Config.scoreMax
  quiet : c.quiet ≤ Config.scoreMax
  seed : c.seed ≤ Config.scoreMax

/-- A tally within its ranges: the counters saturate (R130), S lies between 0 and 1,000,000 (R138, R139), and R is 0 or S
(R140). -/
structure Tally.InRange (t : Tally) : Prop where
  framesClosed : t.framesClosed ≤ Config.counterMax
  damage : t.damage ≤ Config.counterMax
  transit : t.transit ≤ Config.counterMax
  suspect : t.suspect ≤ Config.counterMax
  longestStarve : t.longestStarve ≤ Config.counterMax
  scoreS : t.scoreS ≤ Config.scoreMax
  scoreR : t.scoreR = 0 ∨ t.scoreR = t.scoreS

/-- A lane's numbers keep their ranges: the settings and the tally, the fine group index from 1 to 16 (R61), the saturating
starve measurement (R68), and a withdraw list of at most 4 distinct positions (R55). -/
structure Lane.InRange (l : Lane) : Prop where
  settings : l.settings.InRange
  tally : l.tally.InRange
  group : 1 ≤ l.pacing.group ∧ l.pacing.group ≤ 16
  starve : l.pacing.starveMs ≤ Config.counterMax
  withdraws : l.withdraws.length ≤ Config.withdrawPlaces
  distinct : l.withdraws.Nodup

/-- The frames of the window stand at the positions from DRAIN up to but not including the taken count, in ring order
(R24). -/
structure Lane.WindowInRing (l : Lane) : Prop where
  positions : l.window.map Frame.pos = (List.range l.window.length).map fun i => l.drain + natWord i
  taken : l.taken = l.drain + natWord l.window.length

/-- The control reads stand in the order in which they began to wait (R79), each under a tag of its own that the next
request does not get (log entry 4). -/
def State.ReadsInOrder (s : State) : Prop :=
  (s.ctl.Pairwise fun r q => r.since ≤ q.since ∧ r.tag < q.tag) ∧ ∀ r ∈ s.ctl, r.since ≤ s.now ∧ r.tag < s.nextTag

/-- The lane has opened its reel: ACTIVE, STARVED, PAUSED, DRAINING, or OPENING with its DRAIN write done (R24, R42). -/
def Lane.live (l : Lane) : Bool := l.closes || l.state = .opening && l.opening = .fillRead

/-- The counts of a lane stand in order, DRAIN ≤ taken ≤ FILL seen, and FILL seen − DRAIN ≤ E, in every state (R24), E being that
of the sheet last cached. -/
def Lane.CountsInOrder (l : Lane) : Prop :=
  (l.taken - l.drain).toNat ≤ (l.fillSeen - l.drain).toNat ∧
    (l.fillSeen - l.drain).toNat ≤ 2 ^ l.settings.ringLog

/-- The withdraw list stands in ascending ring order, every position of it at or beyond the taken count and within E of
DRAIN (R31, R55). -/
structure Lane.WithdrawsAhead (l : Lane) : Prop where
  ascending : l.withdraws.Pairwise fun p q => l.beyond p < l.beyond q
  ahead : ∀ p ∈ l.withdraws, (l.taken - l.drain).toNat ≤ l.beyond p
  inRing : l.live = true → ∀ p ∈ l.withdraws, l.beyond p < 2 ^ l.settings.ringLog

/-- How far a lane has come agrees with its state: only an OPENING lane without an abort has an opening step (R42), a CLOSED
lane ends nothing (R47 to R49), and an end of the reel is that of a DRAINING lane or of an abort of R48. -/
structure Lane.PhasesAgree (l : Lane) : Prop where
  opening : l.opening ≠ .idle → l.state = .opening ∧ l.abort = none ∧ l.ending = none
  closed : l.state = .closed → l.abort = none ∧ l.ending = none ∧ l.withdraws = []
  ending : l.ending ≠ none → l.abort ≠ none ∨ l.state = .draining
  bare : ∀ a, l.abort = some a → a.bare = true → l.ending = none
  early : l.state = .opening → l.opening ≠ .fillRead → l.withdraws = []

/-- The reads that a lane still acts on belong to its open reel, one take and one sheet header read at a time, and the window
has a place for the frame being taken (R19, R27, R29). -/
structure State.ReadsAgree (s : State) (n : LaneId) : Prop where
  header : ∀ r ∈ s.ctl, r.discard = false → r.kind = .sheetHeader n → (s.lane n).opening = .headerRead
  headers : (s.ctl.countP fun r => r.kind = .sheetHeader n && !r.discard) ≤ 1
  fill : ∀ r ∈ s.ctl, r.discard = false → r.kind = .fill n → (s.lane n).live = true ∧ (s.lane n).abort = none
  take : ∀ r ∈ s.ctl, r.discard = false → r.kind = .descriptor n →
    (s.lane n).closes = true ∧ (s.lane n).abort = none ∧ (s.lane n).ending = none ∧ (s.lane n).taken ≠ (s.lane n).fillSeen
  takes : (s.ctl.countP fun r => r.kind = .descriptor n && !r.discard) ≤ 1
  room : (s.lane n).window.length + (s.ctl.countP fun r => r.kind = .descriptor n && !r.discard) ≤ Config.windowPlaces

/-- The reels of all lanes are in order. -/
structure State.ReelsInOrder (s : State) : Prop where
  ranges : ∀ n, (s.lane n).InRange
  windows : ∀ n, (s.lane n).WindowInRing
  phases : ∀ n, (s.lane n).PhasesAgree
  reads : ∀ n, s.ReadsAgree n
  counts : ∀ n, (s.lane n).CountsInOrder
  withdraws : ∀ n, (s.lane n).WithdrawsAhead

/-- The strip is never overfilled: STRIP_WRITTEN − last read value never exceeds C, and the cached room never exceeds what
that leaves of C (R152). Before READY the unit holds nothing of a strip, and only then is a directory validated (R159,
R162). -/
structure State.StripBounded (s : State) : Prop where
  capacity : s.dir.stripCapacity ≤ 65536
  behind : s.strip.behind s.strip.lastRead ≤ s.dir.stripCapacity
  room : s.strip.room ≤ s.dir.stripCapacity - s.strip.behind s.strip.lastRead
  empty : s.regs.ready = false → s.strip.written = s.strip.lastRead ∧ s.strip.room = 0 ∧ s.strip.disposing = none ∧
    ∀ r ∈ s.ctl, r.kind ≠ .stripRead
  validating : ∀ r ∈ s.ctl, r.kind = .dirHeader → s.regs.ready = false
  validations : (s.ctl.countP fun r => r.kind = .dirHeader) ≤ 1

/-- The requests of the mend queue and the places reserved for the vote wait list are at most its 8 places (R113). -/
def State.MendsBounded (s : State) : Prop := s.mender.queue.length + s.reservedPlaces ≤ Config.mendPlaces

/-- What waits for a twin belongs to a linked pair: every stripe on the vote wait list, and every board entry that has a
partner (R94, R100, R103). -/
structure State.TwinsLinked (s : State) : Prop where
  votes : ∀ v ∈ s.votes, (s.link v.pair).linked = true
  partners : ∀ e ∈ s.board, e.partner ≠ none → s.linked e.lane = true

/-- A safe state of the part: what every run from reset keeps. -/
structure State.Safe (s : State) : Prop where
  settled : s.Settled
  registers : s.RegistersAgree
  board : s.BoardBounded
  reads : s.ReadsInOrder
  lanes : ∀ n, (s.lane n).InRange
  windows : ∀ n, (s.lane n).WindowInRing
  reels : s.ReelsInOrder
  strip : s.StripBounded
  mends : s.MendsBounded
  twins : s.TwinsLinked

/-! ### Words of the statements -/

/-- The state write of a lane: STATE and CAUSE, then six bytes of 0 (R36, R166). -/
def stateWrite (r : Registers) (n : LaneId) (st : LaneState) (c : Cause) : Posted :=
  .write (Addr.plus (laneEntryAddr r n) 0x18) [BitVec.ofNat 8 st.code, BitVec.ofNat 8 c.code, 0, 0, 0, 0, 0, 0]

/-- An acknowledgement: ACK_SEQ and ACK_RESULT (R39, R166). -/
def ackWrite (r : Registers) (n : LaneId) (seq : Word) (a : AckResult) : Posted :=
  .write (Addr.plus (laneEntryAddr r n) 0x10) (wordBytes seq ++ [BitVec.ofNat 8 a.code, 0, 0, 0])

/-- A DRAIN write into the reel sheet at `sheet` (R26, R166). -/
def drainWrite (sheet : Addr) (drain : Word) : Posted := .write (Addr.plus sheet 0x80) (wordBytes drain)

/-- A tally write into the reel sheet at `sheet` (R130, R166). -/
def tallyWrite (sheet : Addr) (t : Tally) : Posted := .write (Addr.plus sheet 0xC0) t.bytes

/-- The control read number `i` that a command given in state `s` begins. -/
def State.newRead (s : State) (i : Nat) (kind : CtlKind) (addr : Addr) (len attempt : Nat) : CtlRead where
  tag := s.nextTag + i
  kind := kind
  addr := addr
  len := len
  attempt := attempt
  sent := false
  since := s.now + 1
  sentAt := 0
  discard := false

/-- The control reads other than the one with that tag. -/
def State.otherReads (s : State) (tag : Nat) : List CtlRead := s.ctl.filter fun r => r.tag ≠ tag

/-- What a change of the registers to `r` sends: one message when the attention line goes from inactive to active, unless
messages are disabled (R158). -/
def State.messages (s : State) (r : Registers) : List Posted :=
  if r.line = true ∧ s.regs.line = false ∧ s.msi = true then [.message] else []

/-- A reel sheet header that R21 leaves valid on lane `n`: its exponents in range, a ring base on a 128-byte boundary, and
twin options that agree with the lane's number (R20). -/
structure SheetHeader.Legal (h : SheetHeader) (n : LaneId) : Prop where
  stripe : 12 ≤ h.stripeLog ∧ h.stripeLog ≤ 20
  ring : 4 ≤ h.ringLog ∧ h.ringLog ≤ 12
  base : h.ringBase ≠ 0 ∧ h.ringBase.toNat % 128 = 0
  lead : h.options.twinLead = true → n.val % 2 = 0
  follow : h.options.twinFollow = true → n.val % 2 = 1

/-- The tag of the request that a completion or a failure names. -/
def answeredTag : Instr → Option Nat
  | .directoryHeaderReadComplete tag _ | .directoryHeaderReadFail tag => some tag
  | .sequenceUnchanged tag | .openReel tag _ _ | .pauseReel tag _ | .resumeReel tag _ | .closeReel tag _ => some tag
  | .abortReel tag _ | .unknownCommand tag _ _ | .laneEntryReadFail tag => some tag
  | .sheetHeaderReadComplete tag _ | .sheetHeaderReadFail tag => some tag
  | .fillReadComplete tag _ | .fillReadFail tag => some tag
  | .descriptorReadComplete tag _ | .descriptorReadFail tag => some tag
  | .refHeaderArrival tag _ | .refBodyComplete tag _ | .refListReadFail tag => some tag
  | .fetchCompletion tag _ _ | .fetchRequestFail tag => some tag
  | .mendCompletion tag _ _ | .mendRequestFail tag => some tag
  | .stripReadComplete tag _ | .stripReadFail tag => some tag
  | .tripEntryReadComplete tag _ | .tripEntryReadFail tag => some tag
  | .hardReset | .softReset | .enableSet | .enableClear | .quiesceSet | .quiesceClear | .tripReload => none
  | .tripReloadLatchedStart | .dirBaseWrite _ _ | .wake _ | .latchedWakeServe _ | .recallWrite _ => none
  | .attentionWrite _ | .attentionMaskWrite _ | .registerWriteIgnored _ _ | .takeBegin _ => none
  | .reservationGrant _ | .paceUnderflow _ | .pollExpiry _ | .starveMsTick _ | .checkIssue _ => none
  | .pairedIssue _ | .arbiterGrant _ | .fetchStart _ | .mendStart | .closeBegin _ | .findingDispose _ => none
  | .msiEnableChange _ => none

/-- The read request with that tag is outstanding: a control read that has been sent, a request of a digest context, or a
request of the mend engine. -/
def State.awaits (s : State) (tag : Nat) : Prop :=
  (∃ r ∈ s.ctl, r.tag = tag ∧ r.sent = true) ∨
    (∃ (c : CtxId) (f : Fetch), s.ctx c = some f ∧ ∃ r ∈ f.stream.outstanding, r.tag = tag) ∨
      ∃ r ∈ s.mender.engine.outstanding, r.tag = tag

/-- The stream has read what the stripe's bytes `bytes` hold: the accumulator has seen those before `absorbed`, and the kept
data is theirs (R82). -/
structure Stream.Reads (bytes : List Byte) (t : Stream) : Prop where
  len : t.len = bytes.length
  absorbed : t.absorbed ≤ bytes.length
  crc : t.failed = false → t.crc = (bytes.take t.absorbed).foldl crcByte crcInit
  kept : ∀ p ∈ t.kept, p.off + p.data.length ≤ bytes.length ∧ p.data = (bytes.drop p.off).take p.data.length

end Sys2Proof.Machine
end

