-- ==== Sys2Proof/Certificates/Slice0/Obligations.lean ====
section
/-! DEFINITION. The statements about the CJS-8 for the provers, family by family: the step and its invariants, the
operations every command shares, the resets and registers, the directory and the wakes, the lane commands, opening and
taking, reference lists, pacing, the stripe board and the read port, twin reels and mending, closing, findings, scores and
trip points. `State.finish` in a result is what AttentionAndStatusFollow says; it is nothing while the part runs, while a
control read is in flight, and in a state that is Settled, as StepKeepsRegistersAgreed says every step leaves it. -/

open Sys2Proof Sys2Proof.Machine

/-! ### The step and its invariants -/

/-- The command at the front of the queue runs on the state with the queue's rest; the queue is the model's own. -/
def Obligations.StepRunsFrontCommand : Prop :=
  ∀ (s : State) (c : Instr) (rest : List Instr), s.pending = c :: rest → step s = exec c { s with pending := rest }

/-- Every command of the table is answered with a next state, in every state of the part (log entry 1). -/
def Obligations.EveryCommandIsAnswered : Prop :=
  ∀ (c : Instr) (s : State), ∃ t, exec c s = .next t

/-- With no command waiting, a step is one tick of the pace clock: lane by lane in ascending number the running pace counter
counts down or meets its 0, the running poll counter counts down or expires, and the running starve measurement counts up to
its next millisecond; every request not completed within 50 ms of being sent makes its failure a waiting command, and nothing
else is queued; no read, write or waiting finding is lost. That an idle step is a tick, and the order of the lanes within it,
is the model's choice (log entry 6), and so are the 50,000 ticks of the pace clock for the 50 ms and the failures in the queue
(log entry 10). -/
def Obligations.IdleStepTicksPaceClock : Prop :=
  (∀ s : State, s.pending = [] → ∃ t, step s = .next t ∧
    t = { ([0, 1, 2, 3, 4, 5, 6, 7] : List LaneId).foldl State.laneTick { s with clock := s.clock + 1, now := s.now + 1 } with
      pending := t.pending } ∧
    t = { s with
      pending := t.pending
      clock := s.clock + 1
      now := s.now + 1
      nextTag := t.nextTag
      ctl := t.ctl
      lanes := t.lanes
      strip := { s.strip with waiting := t.strip.waiting } } ∧
    s.ctl <+: t.ctl ∧ s.strip.waiting <+: t.strip.waiting ∧
    ∀ c : Instr, c ∈ t.pending ↔
      (∃ r ∈ s.ctl, r.sent = true ∧ 50000 ≤ s.clock + 1 - r.sentAt ∧ c = r.kind.failure r.tag) ∨
      (∃ (k : CtxId) (f : Fetch), s.ctx k = some f ∧ ∃ r ∈ f.stream.outstanding,
        50000 ≤ s.clock + 1 - r.sentAt ∧ c = .fetchRequestFail r.tag) ∨
      ∃ r ∈ s.mender.engine.outstanding, 50000 ≤ s.clock + 1 - r.sentAt ∧ c = .mendRequestFail r.tag) ∧
  ∀ (s : State) (n : LaneId),
    let l := s.lane n
    let p := l.pacing
    let paces := (l.state = .active ∨ l.state = .starved ∨ l.state = .draining) ∧ l.abort = none ∧
      ¬ (n.val % 2 = 1 ∧ s.linked n = true) ∧ l.settings.paceReload ≠ 0 ∧ s.running = true
    let starves := l.state = .starved ∧ l.abort = none ∧ s.running = true
    let paced := s.setLane n l.paceTick
    (0 < p.count → l.paceTick = { l with pacing := { p with count := p.count - 1 } }) ∧
    (p.count = 0 → l.paceTick = l.paceAtZero) ∧
    (¬ starves → (paces → s.laneTick n = paced) ∧ (¬ paces → s.laneTick n = s)) ∧
    (starves → (paces → s.laneTick n = (paced.pollTick n).starveTick n) ∧
      (¬ paces → s.laneTick n = (s.pollTick n).starveTick n)) ∧
    (1 < p.poll → s.pollTick n = s.setLane n { l with pacing := { p with poll := p.poll - 1 } }) ∧
    (p.poll ≤ 1 → s.pollTick n =
      State.fillCause (s.setLane n { l with pacing := { p with poll := l.settings.pollInterval * 100 } }) n) ∧
    (p.starveSub + 1 < 1000 → s.starveTick n = s.setLane n { l with pacing := { p with starveSub := p.starveSub + 1 } }) ∧
    (1000 ≤ p.starveSub + 1 → s.starveTick n =
      State.starveMs (s.setLane n { l with pacing := { p with starveSub := 0 } }) n)

/-- Right after reset every lane is CLOSED with cause RESET with nothing in its window, the board, the contexts and the
mend queue are empty, nothing is enabled, and the state is a safe one. -/
def Obligations.ResetStateIsSafe : Prop :=
  State.reset.Safe ∧
    (∀ n : LaneId, (State.reset.lane n).state = .closed ∧ (State.reset.lane n).cause = .reset ∧
      (State.reset.lane n).lastSeq = 0 ∧ (State.reset.lane n).window = [] ∧ (State.reset.lane n).drain = 0 ∧
      (State.reset.lane n).taken = 0 ∧ (State.reset.lane n).fillSeen = 0 ∧ (State.reset.lane n).pacing.group = 1 ∧
      (State.reset.lane n).pacing.permit = false) ∧
    State.reset.board = [] ∧ (∀ c : CtxId, State.reset.ctx c = none) ∧ State.reset.mender = ⟨[], .idle⟩ ∧
    (∀ p : PairId, (State.reset.link p).linked = false) ∧ (∀ i : TripId, (State.reset.trip i).enable = false) ∧
    State.reset.readReg .control = 0 ∧ State.reset.readReg .status = 0 ∧ State.reset.readReg .attention = 0 ∧
    State.reset.readReg .partId = 0x4D530802#32

/-- STATUS goes on following CONTROL, and the registers go on agreeing with one another: a quiesce with nothing left in flight
has QUIESCED set, a freeze with nothing left in flight has ENABLED clear; DIR_BASE stands on its 512-byte boundary, QUIESCED
only under QUIESCE, ENABLED while ENABLE is set, TRIP_RELOAD_BUSY while a reload is in progress. That ENABLED is set while
ENABLE is before READY too is the model's (log entry 14). -/
def Obligations.StepKeepsRegistersAgreed : Prop :=
  ∀ s t : State, s.Settled → s.RegistersAgree → step s = .next t → t.Settled ∧ t.RegistersAgree

/-- The stripe board never holds more than 32 entries, nor more than 8 of one lane; the requests of the mend queue and the
places reserved for the vote wait list never exceed its 8 places; and of the strip, STRIP_WRITTEN less the last read value
never exceeds C, nor the cached room what that leaves of C, the findings unit holding nothing of a strip before READY (that
no finding is disposed of before READY is the model's, log entry 16). And what waits for a twin goes on belonging to linked
pairs: every stripe on the vote wait list, and every board entry that has a partner. -/
def Obligations.StepKeepsBoardBounded : Prop :=
  (∀ s t : State, s.BoardBounded → step s = .next t → t.BoardBounded) ∧
  (∀ s t : State, s.TwinsLinked → step s = .next t → t.TwinsLinked) ∧
  (∀ s t : State, s.MendsBounded → step s = .next t → t.MendsBounded) ∧
  ∀ s t : State, s.StripBounded → step s = .next t → t.StripBounded

/-- Every lane keeps its settings, its tally, its scores, its fine group index and its withdraw list within their ranges; and
while its reels are in order, its withdraw list in ascending ring order, every position at or beyond its taken count and, on
an open lane, within E of its DRAIN. -/
def Obligations.StepKeepsLaneRanges : Prop :=
  (∀ s t : State, (∀ n, (s.lane n).InRange) → step s = .next t → ∀ n, (t.lane n).InRange) ∧
  ∀ s t : State, s.ReelsInOrder → step s = .next t → ∀ n, (t.lane n).WithdrawsAhead

/-- Every lane's window goes on holding the frames at the positions from DRAIN up to its taken count, in ring order. The reels
of the lanes stay in order: the counts of every lane stand DRAIN ≤ taken ≤ FILL seen with FILL seen − DRAIN at most E, a
window holds at most 4 frames with the one being taken, a read that is still acted on belongs to an open reel, and what opens,
aborts or ends agrees with the lane's state. That the counts are 0 from the caching of a reel's E on, which holds that bound
before step 3 of R42, is the model's reading (log entry 48). -/
def Obligations.StepKeepsWindowInRing : Prop :=
  (∀ s t : State, (∀ n, (s.lane n).WindowInRing) → step s = .next t → ∀ n, (t.lane n).WindowInRing) ∧
  ∀ s t : State, s.ReelsInOrder → step s = .next t → t.ReelsInOrder

/-- The control reads go on standing in the order in which they began to wait, told by the count of commands (the model's way,
log entry 3), each under a tag of its own (the model's choice, log entry 4). -/
def Obligations.StepKeepsReadsInOrder : Prop :=
  ∀ s t : State, s.ReadsInOrder → step s = .next t → t.ReadsInOrder

/-- A write or a message that the part has issued stands: a step only adds behind those issued earlier, a reset too. -/
def Obligations.IssuedWritesStand : Prop :=
  ∀ s t : State, step s = .next t → s.out <+: t.out

/-- A completion or a failure for a request that is not outstanding changes nothing, whatever it brings: a completion that
arrives after a reset for a request sent before it is discarded. That requests are told apart by tags never used twice, and
that a completion under another row's tag changes nothing, is the model's choice (log entry 4). -/
def Obligations.LateCompletionsAreDiscarded : Prop :=
  (∀ (s : State) (c : Instr) (tag : Nat), answeredTag c = some tag → ¬ s.awaits tag → exec c s = .next s) ∧
    ∀ (s t : State) (tag : Nat), exec .hardReset s = .next t ∨ exec .softReset s = .next t → ¬ t.awaits tag

/-! ### The operations every command shares -/

/-- A raised cause is set in ATTENTION and nothing else changes, but for one message when the line goes active; and when a
command's work is done, a quiesce with nothing left in flight has QUIESCED set and its cause raised, and a freeze with
nothing left in flight has ENABLED clear. -/
def Obligations.AttentionAndStatusFollow : Prop :=
  (∀ (s : State) (c : Attention),
    let r := { s.regs with attention := s.regs.attention ||| c.bit }
    s.raise c = { s with regs := r, out := s.out ++ s.messages r }) ∧
  (∀ s : State, s.regs.quiesce = true → s.regs.quiesced = false → s.idle = true →
    let r := { s.regs with
      quiesced := true
      enabled := s.regs.enabled && s.regs.enable
      attention := s.regs.attention ||| 0x08#6 }
    s.finish = { s with regs := r, out := s.out ++ s.messages r }) ∧
  (∀ s : State, s.regs.quiesce = false ∨ s.regs.quiesced = true → s.regs.enable = false → s.idle = true →
    s.finish = { s with regs := { s.regs with enabled := false } }) ∧
  ∀ s : State, s.running = true ∨ s.idle = false ∨ s.Settled → s.finish = s

/-- A lane that enters a state issues its state write behind every write issued earlier. An exit from STARVED captures the
starve into LONGEST_STARVE when it is longer, an entry to STARVED loads the poll counter and starts the starve measurement,
and a latched FILL read is kept in OPENING, ACTIVE and STARVED alone, in any other state one not yet sent being dropped (the
model's reading, log entry 44). A cause for a FILL read makes the read when the lane is ACTIVE, STARVED, or OPENING with its
DRAIN write done, with room in its window and no untaken frame; behind a read in flight, or while the part is quiesced or
frozen, it is latched; otherwise it does nothing (the model's reading, log entry 17). -/
def Obligations.StatesAreWrittenAndFillsRead : Prop :=
  ∀ (s : State) (n : LaneId),
    let l := s.lane n
    let effective := ((l.state = .active ∨ l.state = .starved ∨ l.state = .opening ∧ l.opening = .fillRead) ∧
      l.abort = none) ∧ l.window.length < 4 ∧ l.taken = l.fillSeen
    let reads := fun st : LaneState => st = .opening ∨ st = .active ∨ st = .starved
    let reading := ∃ r ∈ s.ctl, r.kind = .fill n
    (∀ (st : LaneState) (c : Cause), s.enter n st c =
      { s.setLane n { l with
          state := st
          cause := c
          fillLatch := l.fillLatch && decide (reads st)
          tally := { l.tally with longestStarve :=
            if l.state = .starved then max l.tally.longestStarve l.pacing.starveMs else l.tally.longestStarve }
          pacing :=
            if st = .starved then
              { l.pacing with poll := l.settings.pollInterval * 100, starveMs := 0, starveSub := 0, reported := false }
            else l.pacing } with
        ctl := s.ctl.filter fun r => reads st ∨ ¬ (r.kind = .fill n ∧ r.sent = false ∧ r.attempt = 1)
        out := s.out ++ [stateWrite s.regs n st c] }) ∧
    (effective → ¬ reading → s.running = true →
      s.fillCause n = { s with
        ctl := s.ctl ++ [⟨s.nextTag, .fill n, Addr.plus l.sheet 0x40, 4, 1, false, s.now, 0, false⟩]
        nextTag := s.nextTag + 1 }) ∧
    (effective → reading ∨ s.running = false → s.fillCause n = s.setLane n { l with fillLatch := true }) ∧
    (¬ effective → s.fillCause n = s)

/-! ### Resets and registers -/

/-- A hard reset puts every register and every block to its reset value and restarts the pace clock; a soft reset keeps
DIR_BASE and ATTENTION_MASK and lets the clock tick on. Neither issues a write. That the command queue, the command count and
the next tag outlive a reset, and that a hard reset disables message-signalled interrupts and a soft one does not, is the
model's (log entries 4, 7 and 8). -/
def Obligations.ResetsClearThePart : Prop :=
  ∀ s : State,
    exec .hardReset s = .next { State.reset with
      pending := s.pending, now := s.now, nextTag := s.nextTag, out := s.out } ∧
    exec .softReset s = .next { State.reset with
      pending := s.pending
      now := s.now
      nextTag := s.nextTag
      out := s.out
      clock := s.clock
      msi := s.msi
      regs := { Registers.reset with dirLo := s.regs.dirLo, dirHi := s.regs.dirHi, mask := s.regs.mask } }

/-- ENABLE from 0 to 1: with READY clear the directory header is read at DIR_BASE for a validation, DIRECTORY_FAULT being
cleared, unless that read is in flight already; with READY set no validation is made, and a quiesced part stays stopped.
A write that leaves ENABLE set changes nothing. That ENABLED is set at once before READY, and that a read in flight is not
made again, is the model's (log entry 14). -/
def Obligations.EnableSetValidates : Prop :=
  ∀ s : State,
    (s.regs.enable = true → exec .enableSet s = .next s) ∧
    (s.regs.enable = false → s.regs.ready = false →
      let r := { s.regs with enable := true, enabled := true, dirFault := false }
      ((∀ q ∈ s.ctl, q.kind ≠ .dirHeader) → exec .enableSet s = .next { s with
        now := s.now + 1
        nextTag := s.nextTag + 1
        regs := r
        out := s.out ++ s.messages r
        ctl := s.ctl ++ [s.newRead 0 .dirHeader s.regs.dirBase 64 1] }) ∧
      ((∃ q ∈ s.ctl, q.kind = .dirHeader) → exec .enableSet s = .next { s with
        now := s.now + 1
        regs := r
        out := s.out ++ s.messages r })) ∧
    (s.regs.enable = false → s.regs.ready = true → s.regs.quiesce = true →
      let r := { s.regs with enable := true, enabled := true }
      exec .enableSet s = .next
        (State.finish { s with now := s.now + 1, regs := r, out := s.out ++ s.messages r }))

/-- A frozen part that is enabled again with READY set, and a quiesced one whose QUIESCE is cleared, goes on: an opening
goes on with the header read or with its DRAIN write, a latched FILL read is made, and the lists of frames that hold a
reservation are read. That the latched FILL read is made whatever the window holds is the model's (log entry 18), and so is
that all this is done in the same command (log entry 35). A part with a DRAINING or an aborting lane, whose reel may end in
the same command, is left out here. -/
def Obligations.ResumedPartGoesOn : Prop :=
  ∀ (s : State) (c : Instr),
    (c = .enableSet ∧ s.regs.enable = false ∧ s.regs.ready = true ∧ s.regs.quiesce = false ∨
      c = .quiesceClear ∧ s.regs.enable = true ∧ s.regs.quiesce = true) →
    (∀ n, (s.lane n).abort = none ∧ (s.lane n).state ≠ .draining) →
    ∃ t, exec c s = .next t ∧ t.running = true ∧ t.regs.quiesced = (s.regs.quiesced && c = .enableSet) ∧
      ∀ n : LaneId,
        ((s.lane n).opening = .headerDue → (t.lane n).opening = .headerRead ∧ ∃ r ∈ t.ctl,
          r.kind = .sheetHeader n ∧ r.addr = (s.lane n).sheet ∧ r.len = 64 ∧ r.attempt = 1 ∧ r.since = s.now + 1) ∧
        ((s.lane n).opening = .drainDue → (t.lane n).opening = .fillRead ∧ drainWrite (s.lane n).sheet 0 ∈ t.out) ∧
        ((s.lane n).opening = .idle → (s.lane n).fillLatch = true →
          (s.lane n).state = .active ∨ (s.lane n).state = .starved → (∀ r ∈ s.ctl, r.kind ≠ .fill n) →
          (t.lane n).fillLatch = false ∧ ∃ r ∈ t.ctl,
            r.kind = .fill n ∧ r.addr = Addr.plus (s.lane n).sheet 0x40 ∧ r.len = 4 ∧ r.since = s.now + 1) ∧
        ((s.lane n).opening = .idle → (s.lane n).closes = true →
          ∀ f ∈ (s.lane n).window, f.kind = .normal → f.ref = .granted →
          ∃ r ∈ t.ctl, r.kind = .refHeader n f.pos ∧ r.addr = f.refAddr ∧ r.len = 16 ∧ r.since = s.now + 1)

/-- Clearing ENABLE freezes the part, and setting QUIESCE quiesces it: the bit is as written at once, STATUS.ENABLED is
cleared and STATUS.QUIESCED set with its cause when nothing is in flight, and not before. Clearing QUIESCE clears QUIESCED.
A write that leaves the bit as it is changes nothing. -/
def Obligations.FreezeAndQuiesceStopThePart : Prop :=
  ∀ s : State, s.Settled → s.RegistersAgree →
    (s.regs.enable = true → exec .enableClear s = .next
      { s with now := s.now + 1, regs := { s.regs with enable := false, enabled := !s.idle } }) ∧
    (s.regs.enable = false → exec .enableClear s = .next s) ∧
    (s.regs.quiesce = false → s.idle = false → exec .quiesceSet s = .next
      { s with now := s.now + 1, regs := { s.regs with quiesce := true } }) ∧
    (s.regs.quiesce = false → s.idle = true →
      let r := { s.regs with quiesce := true, quiesced := true, attention := s.regs.attention ||| 0x08#6 }
      exec .quiesceSet s = .next { s with now := s.now + 1, regs := r, out := s.out ++ s.messages r }) ∧
    (s.regs.quiesce = true → exec .quiesceSet s = .next s) ∧
    (s.regs.quiesce = true → s.regs.enable = false → exec .quiesceClear s = .next
      { s with now := s.now + 1, regs := { s.regs with quiesce := false, quiesced := false } }) ∧
    (s.regs.quiesce = false → exec .quiesceClear s = .next s)

/-- While the part is quiesced or frozen, takes, issues, fetch starts, mend starts and closes do not begin, latched wakes
are not served, and the pace counters, poll counters and starve measurements stand. A FAULTED lane of an unlinked pair is
not changed by QUIESCE and ENABLE, set or cleared, in a state whose vote wait list holds stripes of linked pairs alone, as
StepKeepsBoardBounded says every step leaves it. -/
def Obligations.StoppedPartBeginsNothing : Prop :=
  (∀ s : State, s.regs.enable = false ∨ s.regs.quiesce = true → ∀ (n : LaneId) (p : PairId) (k : CtxId), ∀ c ∈
    ([.takeBegin n, .checkIssue n, .pairedIssue p, .fetchStart k, .mendStart, .closeBegin n, .latchedWakeServe n,
      .paceUnderflow n, .pollExpiry n, .starveMsTick n] : List Instr),
    exec c s = .next s) ∧
  ∀ (s t : State) (n : LaneId) (c : Instr), c ∈ ([.enableSet, .enableClear, .quiesceSet, .quiesceClear] : List Instr) →
    (s.lane n).state = .faulted → (s.lane n).abort = none → (s.lane n).opening = .idle → s.linked n = false →
    (∀ v ∈ s.votes, (s.link v.pair).linked = true) → exec c s = .next t → t.lane n = s.lane n

/-- A write to DIR_BASE is taken while ENABLE and STATUS.ENABLED are clear and every lane is CLOSED: the register takes the
value, its low 9 bits read as 0, READY and DIRECTORY_FAULT are cleared, and the findings unit starts anew, findings handed
over still waiting (the model's choice, log entry 15). At any other time the write changes nothing. -/
def Obligations.DirBaseWriteIsTaken : Prop :=
  ∀ (s : State) (high : Bool) (value : Word),
    let taken := s.regs.enable = false ∧ s.regs.enabled = false ∧ ∀ n, (s.lane n).state = .closed
    (¬ taken → exec (.dirBaseWrite high value) s = .next s) ∧
    (taken → exec (.dirBaseWrite high value) s = .next (State.finish { s with
      now := s.now + 1
      regs := { s.regs with
        dirHi := if high then value else s.regs.dirHi
        dirLo := if high then s.regs.dirLo else (value >>> 9) <<< 9
        ready := false
        dirFault := false }
      strip := { FindingsUnit.reset with waiting := s.strip.disposing.toList ++ s.strip.waiting }
      ctl := s.ctl.filter fun r => r.kind ≠ .stripRead }))

/-- A write to ATTENTION clears the causes written as 1 and sends nothing; a write to ATTENTION_MASK takes the six low bits,
and sends a message when it makes the line active; a change of the message-signalled interrupt enable sends nothing. -/
def Obligations.AttentionRegistersAreWritten : Prop :=
  ∀ s : State, s.Settled → ∀ (value : Word) (on : Bool),
    exec (.attentionWrite value) s = .next { s with
      now := s.now + 1
      regs := { s.regs with attention := s.regs.attention &&& ~~~value.extractLsb' 0 6 } } ∧
    (let r := { s.regs with mask := value.extractLsb' 0 6 }
    exec (.attentionMaskWrite value) s = .next
      { s with now := s.now + 1, regs := r, out := s.out ++ s.messages r }) ∧
    exec (.msiEnableChange on) s = .next { s with now := s.now + 1, msi := on }

/-- CONTROL reads back ENABLE and QUIESCE as last written: a write without SOFT_RESET amounts to commands that, run in
order, leave ENABLE at bit 0 and QUIESCE at bit 1; one with SOFT_RESET amounts to a soft reset alone. Writes to PART_ID and
STATUS are ignored, and PART_ID and WAKE read as constants. The order of the commands is the model's (log entry 12). -/
def Obligations.ControlReadsBackAsWritten : Prop :=
  ∀ (s : State) (value : Word),
    (value.getLsbD 2 = true → controlWrite value s = [.softReset]) ∧
    (value.getLsbD 2 = false → ∃ t,
      Sys2Proof.core.run (controlWrite value s).length { s with pending := controlWrite value s } = .next t ∧
        t.pending = [] ∧ t.readReg .control = value &&& 0x3#32) ∧
    (∀ reg : ReadOnlyReg, exec (.registerWriteIgnored reg value) s = .next s) ∧
    s.readReg .partId = 0x4D530802#32 ∧ s.readReg .wake = 0

/-! ### The directory and the wakes -/

/-- A trip reload starts when ENABLE and READY are set and none is in progress: TRIP_RELOAD_BUSY is set and the four entries
are read, all four beginning to wait together in ascending number (the model's choice, log entry 30). At any other time the
request is latched, and a latched request starts a reload as soon as one may start. -/
def Obligations.TripReloadStartsOrIsLatched : Prop :=
  ∀ s : State,
    let may := s.regs.enable = true ∧ s.regs.ready = true ∧ s.regs.reloadBusy = false
    let started := { s with
      now := s.now + 1
      nextTag := s.nextTag + 4
      regs := { s.regs with reloadBusy := true }
      ctl := s.ctl ++
        ([0, 1, 2, 3] : List TripId).map fun i : TripId => s.newRead i.val (.tripEntry i) (tripEntryAddr s.regs i) 16 1 }
    (may → exec .tripReload s = .next
      { started with dir := { s.dir with reload := some (Vector.replicate 4 none) } }) ∧
    (¬ may → exec .tripReload s = .next
      (State.finish { s with now := s.now + 1, dir := { s.dir with reloadLatch := true } })) ∧
    (may → s.dir.reloadLatch = true → exec .tripReloadLatchedStart s = .next
      { started with dir := { s.dir with reloadLatch := false, reload := some (Vector.replicate 4 none) } }) ∧
    (¬ may ∨ s.dir.reloadLatch = false → exec .tripReloadLatchedStart s = .next s)

/-- The entries of a trip reload are gathered, and with the fourth all four staged copies are replaced together (a copy is
taken at once where neither source lies below 32), and the reload ends. A read that fails twice ends the reload with no
staged copy changed and DIRECTORY_FAULT raised; that the reload's other reads are then discarded, with TRIP_RELOAD_BUSY clear
at once, is the model's choice (log entry 30). -/
def Obligations.TripEntriesAreStagedTogether : Prop :=
  ∀ (s : State) (r : CtlRead) (i : TripId), s.sentRead r.tag = some r → r.kind = .tripEntry i → r.discard = false →
    (∀ (data : List Byte) (v : Vector (Option TripRaw) 4), data.length = 16 → s.dir.reload = some v →
      let w := v.set i.val (some (readTripEntry data)) i.isLt
      ((∃ j : TripId, w[j.val] = none) → exec (.tripEntryReadComplete r.tag data) s = .next (State.finish { s with
        now := s.now + 1
        ctl := s.otherReads r.tag
        dir := { s.dir with reload := some w } })) ∧
      ∀ raws : TripId → TripRaw, (∀ j : TripId, w[j.val] = some (raws j)) →
        ∃ t, exec (.tripEntryReadComplete r.tag data) s = .next t ∧ t.dir.reload = none ∧ t.regs.reloadBusy = false ∧
          t.ctl = s.otherReads r.tag ∧ ∀ j, t.trip j =
            if 32 ≤ (s.trip j).source ∧ 32 ≤ (raws j).source then (raws j).taken
            else { s.trip j with staged := some (raws j) }) ∧
    (r.attempt ≠ 1 → exec (.tripEntryReadFail r.tag) s = .next (State.finish (State.raise { s with
      now := s.now + 1
      ctl := (s.otherReads r.tag).map fun q => if q.kind.isTripEntry then { q with discard := true } else q
      dir := { s.dir with reload := none }
      regs := { s.regs with reloadBusy := false } } .directoryFault)))

/-- The directory header is valid when its layout version is 1, its strip exponent lies from 6 to 16 and its strip base is
not 0 with the low 5 bits ignored: then the strip's base and capacity are cached and READY is set. An invalid header, or a
second failure of the read, sets STATUS.DIRECTORY_FAULT and raises the cause, READY staying as it was. -/
def Obligations.DirectoryHeaderIsJudged : Prop :=
  ∀ (s : State) (r : CtlRead), s.sentRead r.tag = some r → r.kind = .dirHeader →
    let failed := State.finish (State.raise { s with
      now := s.now + 1
      ctl := s.otherReads r.tag
      regs := { s.regs with dirFault := true } } .directoryFault)
    (∀ data : List Byte, data.length = 64 →
      let base := (BitVec.ofNat 64 (field data 8 8) >>> 5) <<< 5
      let valid := field data 0 4 = 1 ∧ (6 ≤ field data 4 1 ∧ field data 4 1 ≤ 16) ∧ base ≠ 0
      (valid → exec (.directoryHeaderReadComplete r.tag data) s = .next (State.finish { s with
        now := s.now + 1
        ctl := s.otherReads r.tag
        dir := { s.dir with stripBase := base, stripCapacity := 2 ^ field data 4 1 }
        regs := { s.regs with ready := true } })) ∧
      (¬ valid → exec (.directoryHeaderReadComplete r.tag data) s = .next failed)) ∧
    (r.attempt ≠ 1 → exec (.directoryHeaderReadFail r.tag) s = .next failed)

/-- A directory header, trip point entry, STRIP_READ, lane entry, sheet header, FILL or descriptor read whose first attempt
fails is made once more, and nothing else changes. -/
def Obligations.FailedReadIsMadeOnceMore : Prop :=
  ∀ (s : State) (r : CtlRead), s.sentRead r.tag = some r → r.attempt = 1 → r.discard = false →
    (∀ (n : LaneId) (pos : Word), r.kind ≠ .refHeader n pos) →
    (∀ (n : LaneId) (pos : Word) (first : Nat), r.kind ≠ .refBody n pos first) →
    exec (r.kind.failure r.tag) s = .next { s with
      now := s.now + 1
      nextTag := s.nextTag + 1
      ctl := s.otherReads r.tag ++ [s.newRead 0 r.kind r.addr r.len 2] }

/-- A write to WAKE raises a wake at each lane whose bit is set: the lane's entry is read at once, or the wake is latched
when an entry read of the lane is in flight, an abort is in progress, the part does not run, or READY is clear. A latched
wake is served when none of these holds. A write with mask 0 has no effect. -/
def Obligations.WakeIsServedOrLatched : Prop :=
  ∀ s : State, s.Settled →
    (∀ n : LaneId, s.servesWake n = true ↔ (∀ r ∈ s.ctl, r.kind ≠ .laneEntry n) ∧ (s.lane n).abort = none ∧
      (s.regs.enable = true ∧ s.regs.quiesce = false) ∧ s.regs.ready = true) ∧
    (∀ value : Word,
      let asked := ([0, 1, 2, 3, 4, 5, 6, 7] : List LaneId).filter fun n => value.getLsbD n.val
      (asked = [] → exec (.wake value) s = .next s) ∧
      (asked ≠ [] → exec (.wake value) s = .next { s with
        now := s.now + 1
        nextTag := s.nextTag + (asked.filter s.servesWake).length
        ctl := s.ctl ++ (asked.filter s.servesWake).mapIdx fun i n =>
          s.newRead i (.laneEntry n) (laneEntryAddr s.regs n) 32 1
        lanes := Vector.ofFn fun n =>
          if value.getLsbD n.val && !s.servesWake n then { s.lane n with wakeLatch := true } else s.lane n })) ∧
    ∀ n : LaneId,
      ((s.lane n).wakeLatch = true → s.servesWake n = true → exec (.latchedWakeServe n) s = .next
        { s.setLane n { s.lane n with wakeLatch := false } with
          now := s.now + 1
          nextTag := s.nextTag + 1
          ctl := s.ctl ++ [s.newRead 0 (.laneEntry n) (laneEntryAddr s.regs n) 32 1] }) ∧
      ((s.lane n).wakeLatch = false ∨ s.servesWake n = false → exec (.latchedWakeServe n) s = .next s)

/-! ### The lane commands -/

/-- A lane entry whose COMMAND_SEQ is the last acted one brings no command, whatever its COMMAND: nothing is acted on or
written, and the served wake is a cause for a FILL read. A lane entry read that fails twice raises DIRECTORY_FAULT. -/
def Obligations.UnchangedSequenceIsNotActedOn : Prop :=
  ∀ (s : State) (r : CtlRead) (n : LaneId), s.sentRead r.tag = some r → r.kind = .laneEntry n →
    let u := { s with now := s.now + 1, ctl := s.otherReads r.tag }
    let seq := (s.lane n).lastSeq
    exec (.sequenceUnchanged r.tag) s = .next (State.finish (State.fillCause u n)) ∧
    (∀ (sheet : Addr) (code : Word), code.toNat = 0 ∨ 5 < code.toNat → ∀ c ∈
      ([.openReel r.tag seq sheet, .pauseReel r.tag seq, .resumeReel r.tag seq, .closeReel r.tag seq,
        .abortReel r.tag seq, .unknownCommand r.tag seq code] : List Instr),
      exec c s = .next (State.finish (State.fillCause u n))) ∧
    (r.attempt ≠ 1 → exec (.laneEntryReadFail r.tag) s = .next (State.finish (State.raise u .directoryFault)))

/-- OPEN on a CLOSED lane: OPENING is entered with its state write and the acknowledgement DONE, then the sheet header is read
at the sheet address with its low 8 bits cleared, or waits for the part to run. An address whose other bits are 0 makes the
sheet invalid with no read: no control read is begun, and those that are left stood there before. The lane's counts stay those
of its last reel until a sheet is cached, which its LANE_FAULT finding then carries (the model's reading, log entry 48). -/
def Obligations.OpenEntersOpening : Prop :=
  ∀ (s : State) (r : CtlRead) (n : LaneId) (seq : Word) (sheet : Addr),
    s.sentRead r.tag = some r → r.kind = .laneEntry n → seq ≠ (s.lane n).lastSeq → (s.lane n).state = .closed →
    let a := (sheet >>> 8) <<< 8
    let l := { s.lane n with
      lastSeq := seq, sheet := a, drainOnFill := false, pauseOnFill := false, state := .opening, cause := .noCause }
    let out := s.out ++ [stateWrite s.regs n .opening .noCause, ackWrite s.regs n seq .done]
    (a ≠ 0 → s.running = true → exec (.openReel r.tag seq sheet) s = .next
      { s.setLane n { l with opening := .headerRead } with
        now := s.now + 1
        nextTag := s.nextTag + 1
        ctl := s.otherReads r.tag ++ [s.newRead 0 (.sheetHeader n) a 64 1]
        out := out }) ∧
    (a ≠ 0 → s.running = false → exec (.openReel r.tag seq sheet) s = .next (State.finish
      { s.setLane n { l with opening := .headerDue } with
        now := s.now + 1
        ctl := s.otherReads r.tag
        out := out })) ∧
    (a = 0 → l.abort = none → l.closing = none → l.faultDue = none → s.linked n = false →
      ∃ t, exec (.openReel r.tag seq sheet) s = .next t ∧ (t.lane n).state = .faulted ∧
        (t.lane n).cause = .sheetInvalid ∧ out ++ [stateWrite s.regs n .faulted .sheetInvalid] <+: t.out ∧
        t.nextTag = s.nextTag ∧ (∀ q ∈ t.ctl, ∃ p ∈ s.otherReads r.tag, q = { p with discard := q.discard }) ∧
        t.strip.waiting.getLast? = some ⟨laneFaultFinding n .sheetInvalid l.drain l.taken, .fault n, s.now + 1⟩)

/-- The commands that a lane's state refuses or answers without change: the sequence number is taken and the acknowledgement
written, and nothing else changes but what the served wake's FILL read is. -/
def Obligations.CommandsAnsweredWithoutChange : Prop :=
  ∀ (s : State) (r : CtlRead) (n : LaneId) (seq code : Word) (sheet : Addr),
    s.sentRead r.tag = some r → r.kind = .laneEntry n → seq ≠ (s.lane n).lastSeq →
    let st := (s.lane n).state
    let follows := s.linked n = true ∧ n.val % 2 = 1
    let answered := fun x : AckResult => (Host.Outcome.next (State.finish (State.fillCause
      { s.setLane n { s.lane n with lastSeq := seq } with
        now := s.now + 1
        ctl := s.otherReads r.tag
        out := s.out ++ [ackWrite s.regs n seq x] } n)) : Host.Outcome State Fault Refusal)
    (st ≠ .closed → exec (.openReel r.tag seq sheet) s = answered .refusedState) ∧
    (follows → exec (.pauseReel r.tag seq) s = answered .refusedTwin ∧
      exec (.resumeReel r.tag seq) s = answered .refusedTwin ∧ exec (.closeReel r.tag seq) s = answered .refusedTwin) ∧
    (¬ follows →
      (st = .paused → exec (.pauseReel r.tag seq) s = answered .done) ∧
      (st = .closed ∨ st = .opening ∨ st = .draining ∨ st = .faulted →
        exec (.pauseReel r.tag seq) s = answered .refusedState) ∧
      (st ≠ .paused → exec (.resumeReel r.tag seq) s = answered .refusedState) ∧
      (st = .draining ∨ st = .closed → exec (.closeReel r.tag seq) s = answered .done) ∧
      (st = .opening ∨ st = .faulted → exec (.closeReel r.tag seq) s = answered .refusedState)) ∧
    (st = .closed → exec (.abortReel r.tag seq) s = answered .done) ∧
    (code.toNat = 0 ∨ 5 < code.toNat → exec (.unknownCommand r.tag seq code) s = answered .unknownCommand)

/-- PAUSE on an ACTIVE or STARVED lane, RESUME on a PAUSED one, and both on a linked pair through its leader. The state writes
come first, the leader's before the follower's, then the acknowledgement. A starve that ends is captured, and a FILL read not
yet sent is not made (log entry 44); a follower in OPENING is paused when its opening is done. A resumed lane that knows of no
untaken frame reads FILL; a lane of a resumed pair is then ACTIVE or in TWIN_WAIT. -/
def Obligations.PauseAndResumeMoveTheLane : Prop :=
  ∀ (s : State) (r : CtlRead) (n : LaneId) (seq : Word),
    s.sentRead r.tag = some r → r.kind = .laneEntry n → seq ≠ (s.lane n).lastSeq → (s.lane n).abort = none →
    let l := s.lane n
    (l.state = .active ∨ l.state = .starved → s.linked n = false → exec (.pauseReel r.tag seq) s = .next (State.finish
      { s.setLane n { l with
          lastSeq := seq
          state := .paused
          cause := .noCause
          fillLatch := false
          tally := { l.tally with longestStarve :=
            if l.state = .starved then max l.tally.longestStarve l.pacing.starveMs else l.tally.longestStarve } } with
        now := s.now + 1
        ctl := (s.otherReads r.tag).filter fun q => ¬ (q.kind = .fill n ∧ q.sent = false ∧ q.attempt = 1)
        out := s.out ++ [stateWrite s.regs n .paused .noCause, ackWrite s.regs n seq .done] })) ∧
    (l.state = .active ∨ l.state = .starved → s.linked n = true → n.val % 2 = 0 → (s.lane (twin n)).abort = none →
      ∃ t, exec (.pauseReel r.tag seq) s = .next t ∧ (t.lane n).state = .paused ∧ (t.lane n).cause = .noCause ∧
        (∀ k, k ≠ n → k ≠ twin n → t.lane k = s.lane k) ∧
        ((s.lane (twin n)).state = .active ∨ (s.lane (twin n)).state = .starved →
          (t.lane (twin n)).state = .paused ∧ (t.lane (twin n)).cause = .noCause ∧
          s.out ++ [stateWrite s.regs n .paused .noCause, stateWrite s.regs (twin n) .paused .noCause,
            ackWrite s.regs n seq .done] <+: t.out) ∧
        ((s.lane (twin n)).state ≠ .active → (s.lane (twin n)).state ≠ .starved →
          t.lane (twin n) = { s.lane (twin n) with
            pauseOnFill := (s.lane (twin n)).pauseOnFill || decide ((s.lane (twin n)).state = .opening) } ∧
          s.out ++ [stateWrite s.regs n .paused .noCause, ackWrite s.regs n seq .done] <+: t.out)) ∧
    (l.state = .paused → s.linked n = true → n.val % 2 = 0 →
      let runsOn := fun (u : State) (k : LaneId) => (u.lane k).state = .active ∨ (u.lane k).waits = true
      let reads := fun (u : State) (k : LaneId) => ∃ q ∈ u.ctl,
        q.kind = .fill k ∧ q.addr = Addr.plus (s.lane k).sheet 0x40 ∧ q.len = 4 ∧ q.attempt = 1 ∧ q.since = s.now + 1
      let asks := fun k : LaneId => s.running = true ∧ (s.lane k).abort = none ∧ (s.lane k).window.length < 4 ∧
        (s.lane k).taken = (s.lane k).fillSeen ∧ ∀ q ∈ s.ctl, q.kind ≠ .fill k
      ∃ t, exec (.resumeReel r.tag seq) s = .next t ∧ (t.lane n).lastSeq = seq ∧ runsOn t n ∧ (asks n → reads t n) ∧
        (∀ k, k ≠ n → k ≠ twin n → t.lane k = s.lane k) ∧
        ((s.lane (twin n)).state = .paused → runsOn t (twin n) ∧ (asks (twin n) → reads t (twin n)) ∧
          s.out ++ [stateWrite s.regs n .active .noCause, stateWrite s.regs (twin n) .active .noCause,
            ackWrite s.regs n seq .done] <+: t.out) ∧
        ((s.lane (twin n)).state ≠ .paused →
          s.out ++ [stateWrite s.regs n .active .noCause, ackWrite s.regs n seq .done] <+: t.out)) ∧
    (l.state = .paused → s.linked n = false →
      ∃ t, exec (.resumeReel r.tag seq) s = .next t ∧ (t.lane n).state = .active ∧ (t.lane n).cause = .noCause ∧
        (t.lane n).lastSeq = seq ∧ (∀ k, k ≠ n → t.lane k = s.lane k) ∧
        s.out ++ [stateWrite s.regs n .active .noCause, ackWrite s.regs n seq .done] <+: t.out ∧
        (s.running = true → l.window.length < 4 → l.taken = l.fillSeen → (∀ q ∈ s.ctl, q.kind ≠ .fill n) →
          s.newRead 0 (.fill n) (Addr.plus l.sheet 0x40) 4 1 ∈ t.ctl))

/-- CLOSE on an ACTIVE, STARVED or PAUSED lane: DRAINING is entered, then the acknowledgement is written. A lane with frames
left, a take in flight, a part that does not run, or a finding or an evaluation of its own still to be done with (log entry
20) waits, and a FILL read not yet sent is not made (the model's reading, log entry 44); with nothing left the reel ends at
once: the tally with its close cause, then the REEL_CLOSED finding, the CLOSED state write following when the finding has been
disposed of. A linked pair is closed through its leader: both lanes drain, the leader's state write first, a follower in
OPENING when its opening is done, and no frame of two draining lanes stays PENDING. -/
def Obligations.CloseDrainsTheLane : Prop :=
  (∀ (s : State) (r : CtlRead) (n : LaneId) (seq : Word),
    s.sentRead r.tag = some r → r.kind = .laneEntry n → seq ≠ (s.lane n).lastSeq → (s.lane n).abort = none →
    s.linked n = false →
    (s.lane n).state = .active ∨ (s.lane n).state = .starved ∨ (s.lane n).state = .paused →
    let l := { s.lane n with
      lastSeq := seq
      state := .draining
      cause := .noCause
      fillLatch := false
      tally := { (s.lane n).tally with longestStarve :=
        if (s.lane n).state = .starved then max (s.lane n).tally.longestStarve (s.lane n).pacing.starveMs
        else (s.lane n).tally.longestStarve } }
    let out := s.out ++ [stateWrite s.regs n .draining .noCause, ackWrite s.regs n seq .done]
    let ctl := (s.otherReads r.tag).filter fun q => ¬ (q.kind = .fill n ∧ q.sent = false ∧ q.attempt = 1)
    let held := (∃ q ∈ s.otherReads r.tag, q.kind = .descriptor n) ∨
      (∃ w ∈ s.strip.waiting ++ s.strip.disposing.toList, w.submitter.block = .lane n) ∨ ∃ e ∈ s.evaluations, e.1 = n
    (l.window ≠ [] ∨ held ∨ s.running = false → exec (.closeReel r.tag seq) s = .next (State.finish
      { s.setLane n l with now := s.now + 1, ctl := ctl, out := out })) ∧
    (l.window = [] → ¬ held → s.running = true → l.closing = none → l.ending = none →
      let tally := { l.tally with closeCause := .closedByCommand }
      ∃ t, exec (.closeReel r.tag seq) s = .next t ∧
        t.lane n = { l with ending := some .closedByCommand, tally := tally } ∧
        t.out = out ++ [tallyWrite l.sheet tally] ∧ t.ctl = ctl ∧
        t.strip.waiting = s.strip.waiting ++
          [⟨reelClosedFinding n .closedByCommand l.drain l.tally.framesClosed, .reelEnd n .closedByCommand,
            s.now + 1⟩])) ∧
  ∀ (s : State) (r : CtlRead) (n : LaneId) (seq : Word),
    s.sentRead r.tag = some r → r.kind = .laneEntry n → seq ≠ (s.lane n).lastSeq → s.linked n = true → n.val % 2 = 0 →
    (s.lane n).abort = none → (s.lane (twin n)).abort = none →
    let drains := fun k : LaneId =>
      (s.lane k).state = .active ∨ (s.lane k).state = .starved ∨ (s.lane k).state = .paused
    drains n → ∃ t, exec (.closeReel r.tag seq) s = .next t ∧ (t.lane n).lastSeq = seq ∧ (t.lane n).state = .draining ∧
      (drains (twin n) → (t.lane (twin n)).state = .draining ∧
        s.out ++ [stateWrite s.regs n .draining .noCause, stateWrite s.regs (twin n) .draining .noCause,
          ackWrite s.regs n seq .done] <+: t.out ∧
        ((s.lane n).window.length ≤ 4 → (s.lane (twin n)).window.length ≤ 4 →
          ∀ f ∈ (t.lane n).window ++ (t.lane (twin n)).window, f.kind = .normal → f.pairing ≠ .pending)) ∧
      ((s.lane (twin n)).state = .opening → (t.lane (twin n)).state = .opening ∧ (t.lane (twin n)).drainOnFill = true ∧
        s.out ++ [stateWrite s.regs n .draining .noCause, ackWrite s.regs n seq .done] <+: t.out)

/-- ABORT on a lane that is open past its DRAIN write: the abort is in progress, the withdraw list empty, every frame of the
window withdrawn with its stripe verdicts dropped, the lane's QUEUED and HELD board entries gone and its FETCHING ones marked
for discard, and its FILL and descriptor reads marked for discard; with nothing left, and no finding or evaluation of its own
still to be done with (log entry 20), the reel of an unlinked lane ends with cause ABORTED. From FAULTED, or from OPENING
before its DRAIN write, an unlinked lane enters CLOSED when nothing of its own remains, the evaluations of its last close made
(log entry 20): its state write, the acknowledgement and LANE, and nothing else; until then the abort waits. A link is lost
with the lane: the TWIN_LOST finding, and the other lane's frames and entries alone. -/
def Obligations.AbortEndsTheReel : Prop :=
  ∀ (s : State) (r : CtlRead) (n : LaneId) (seq : Word),
    s.sentRead r.tag = some r → r.kind = .laneEntry n → seq ≠ (s.lane n).lastSeq →
    let l := s.lane n
    let early := l.state = .opening ∧ l.opening ≠ .fillRead
    let reports := (∃ w ∈ s.strip.waiting ++ s.strip.disposing.toList, w.submitter.block = .lane n) ∨
      ∃ e ∈ s.evaluations, e.1 = n
    (l.state ≠ .closed → l.state ≠ .faulted → ¬ early → ∃ t, exec (.abortReel r.tag seq) s = .next t ∧
      (t.lane n).state = l.state ∧ (t.lane n).abort = some ⟨seq, false⟩ ∧ (t.lane n).lastSeq = seq ∧
      (t.lane n).withdraws = [] ∧ (t.lane n).drain = l.drain ∧ (t.lane n).taken = l.taken ∧
      (t.lane n).window.map Frame.pos = l.window.map Frame.pos ∧
      (l.closing = none → ∀ f ∈ (t.lane n).window, f.kind = .withdrawn ∧ f.stripes = []) ∧
      (∀ e ∈ t.board, e.lane = n → e.state = .fetching ∧ e.discard = true) ∧
      (∀ q ∈ t.ctl, q.kind = .fill n ∨ q.kind = .descriptor n → q.discard = true) ∧
      (l.window = [] → l.closing = none → s.running = true → s.linked n = false → ¬ reports →
        (∀ q ∈ s.ctl, q.kind ≠ .fill n ∧ q.kind ≠ .descriptor n) →
        (t.lane n).ending = some .aborted ∧ (t.lane n).tally.closeCause = .aborted ∧
        t.out = s.out ++ [tallyWrite l.sheet (t.lane n).tally] ∧
        t.strip.waiting.getLast? =
          some ⟨reelClosedFinding n .aborted l.drain l.tally.framesClosed, .reelEnd n .aborted, s.now + 1⟩)) ∧
    (l.state = .faulted ∨ early → s.linked n = false → (∀ e ∈ s.board, e.lane ≠ n) →
      (∀ q ∈ s.mender.queue, q.donorLane ≠ n ∧ q.lane ≠ n) → (∀ q ∈ s.ctl, CtlKind.ofReel n q.kind = false) →
      (∀ e ∈ s.evaluations, e.1 ≠ n) → exec (.abortReel r.tag seq) s = .next (State.finish (State.raise
        { s.setLane n { l with
            lastSeq := seq
            state := .closed
            cause := .aborted
            abort := none
            ending := none
            faultDue := none
            opening := .idle
            drainOnFill := false
            pauseOnFill := false
            drain := 0
            taken := 0
            fillSeen := 0
            window := []
            withdraws := []
            fillLatch := false
            pacing := { l.pacing with permit := false } } with
          now := s.now + 1
          ctl := s.otherReads r.tag
          out := s.out ++ [stateWrite s.regs n .closed .aborted, ackWrite s.regs n seq .done] } .lane))) ∧
    (l.state = .faulted ∨ early →
      (∃ q ∈ s.otherReads r.tag, CtlKind.ofReel n q.kind = true) ∨ (∃ e ∈ s.evaluations, e.1 = n) →
      ∃ t, exec (.abortReel r.tag seq) s = .next t ∧ (t.lane n).abort = some ⟨seq, true⟩ ∧
        (t.lane n).state = l.state ∧
        (s.linked n = false → s.out <+: t.out ∧ ∀ w ∈ t.out.drop s.out.length, w = .message) ∧
        ∀ q ∈ t.ctl, CtlKind.ofReel n q.kind = true → q.discard = true) ∧
    (l.state ≠ .closed → s.linked n = true → ∃ t, exec (.abortReel r.tag seq) s = .next t ∧ (t.lane n).lastSeq = seq ∧
      t.link (pairOf n) = ⟨false, []⟩ ∧ ⟨twinLostFinding (twin n) n 1 (s.lane (twin n)).drain (s.lane (twin n)).taken,
        .lane (twin n), s.now + 1⟩ ∈ t.strip.waiting ∧
      (∀ f ∈ (t.lane (twin n)).window, f.pairing ≠ .pending ∧ ∀ q, f.pairing ≠ .paired q) ∧
      (∀ e ∈ t.board, e.lane = twin n → e.partner = none) ∧ (t.lane (twin n)).waits = false)

/-! ### Opening and taking -/

/-- A valid sheet header caches the settings clamped: a lane that does not follow goes on with its counts at 0, its tally,
score and pacing preset, the first DRAIN write, the trip points and its first FILL read, or waits for the part to run. A
follower makes the twin check first: passed, the link forms with the leader's frames that have stripes left to issue as
leader-solo items, every leader frame SOLO with reason UNLINKED and without the UNPAIRED flag that an earlier link gave it
(the flag is the model's reading, log entry 42); failed, the lane faults with TWIN_MISMATCH. A FILL read of an earlier reel
still in flight goes first, the new reel's being latched behind it (the model's reading, log entry 19). That a lane that waits
before its DRAIN write, or fails the twin check, holds counts of 0 is the model's reading too (log entry 48). -/
def Obligations.ValidSheetOpensTheReel : Prop :=
  ∀ (s : State) (r : CtlRead) (n : LaneId) (data : List Byte),
    s.sentRead r.tag = some r → r.kind = .sheetHeader n → r.discard = false → data.length = 64 →
    (readSheetHeader data).Legal n →
    let h := readSheetHeader data
    let l := s.lane n
    let c : Settings := {
      options := h.options
      exponent := h.stripeLog
      ringLog := h.ringLog
      ringBase := h.ringBase
      pollInterval := max h.pollInterval 1
      paceReload := h.paceReload
      paceFine := min h.paceFine 15
      starveLimit := h.starveLimit
      avgSamples := min (max h.avgSamples 1) 64
      window := min h.window 1000000
      quiet := min h.quiet 1000000
      seed := min h.seed 1000000 }
    let opened : Lane := { l with
      settings := c
      opening := .fillRead
      drain := 0
      taken := 0
      fillSeen := 0
      window := []
      withdraws := []
      pacing := { l.pacing with count := c.paceReload, group := 1, extraSpent := false, permit := false }
      tally := {
        framesClosed := 0
        damage := 0
        transit := 0
        suspect := 0
        longestStarve := 0
        scoreS := c.seed
        scoreR := if c.seed < c.quiet then 0 else c.seed
        closeCause := .noCause } }
    let held : Lane := { l with
      settings := c, opening := .drainDue, drain := 0, taken := 0, fillSeen := 0, window := [] }
    let m := leader (pairOf n)
    let lead := s.lane m
    let led := { lead with window := lead.window.map fun f => { f with pairing := .solo .unlinked, unpaired := false } }
    let passes := (lead.state = .opening ∧ (lead.opening = .drainDue ∨ lead.opening = .fillRead) ∨ lead.state = .active ∨
        lead.state = .starved ∨ lead.state = .paused) ∧
      lead.abort = none ∧ lead.settings.options.twinLead = true ∧ lead.settings.exponent = h.stripeLog ∧
      s.linked n = false
    (h.options.twinFollow = false → s.running = true → (∀ q ∈ s.ctl, q.kind ≠ .fill n) →
      exec (.sheetHeaderReadComplete r.tag data) s = .next { s.setLane n opened with
        now := s.now + 1
        nextTag := s.nextTag + 1
        ctl := s.otherReads r.tag ++ [s.newRead 0 (.fill n) (Addr.plus l.sheet 0x40) 4 1]
        out := s.out ++ [drainWrite l.sheet 0]
        trips := s.trips.map fun x => x.atOpen n }) ∧
    (h.options.twinFollow = false → s.running = true → (∃ q ∈ s.otherReads r.tag, q.kind = .fill n) →
      exec (.sheetHeaderReadComplete r.tag data) s = .next { s.setLane n { opened with fillLatch := true } with
        now := s.now + 1
        ctl := s.otherReads r.tag
        out := s.out ++ [drainWrite l.sheet 0]
        trips := s.trips.map fun x => x.atOpen n }) ∧
    (h.options.twinFollow = false → s.running = false →
      exec (.sheetHeaderReadComplete r.tag data) s = .next (State.finish
        { s.setLane n held with now := s.now + 1, ctl := s.otherReads r.tag })) ∧
    (h.options.twinFollow = true → passes → s.running = true → (∃ q ∈ s.otherReads r.tag, q.kind = .fill n) →
      exec (.sheetHeaderReadComplete r.tag data) s = .next
        { ((s.setLane m led).setLane n { opened with fillLatch := true }).setLink (pairOf n) ⟨true, (lead.window.filter fun f =>
            f.kind = .normal && f.cursor < f.n).map fun f => .leaderSolo f.pos⟩ with
          now := s.now + 1
          ctl := s.otherReads r.tag
          out := s.out ++ [drainWrite l.sheet 0]
          trips := s.trips.map fun x => x.atOpen n }) ∧
    (h.options.twinFollow = true → passes → s.running = false →
      exec (.sheetHeaderReadComplete r.tag data) s = .next (State.finish
        { ((s.setLane m led).setLane n { held with pacing := { l.pacing with permit := false } }).setLink (pairOf n) ⟨true, (lead.window.filter fun f =>
              f.kind = .normal && f.cursor < f.n).map fun f => .leaderSolo f.pos⟩ with
          now := s.now + 1, ctl := s.otherReads r.tag })) ∧
    (h.options.twinFollow = true → passes → s.running = true → (∀ q ∈ s.ctl, q.kind ≠ .fill n) →
      exec (.sheetHeaderReadComplete r.tag data) s = .next
        { ((s.setLane m led).setLane n opened).setLink (pairOf n) ⟨true, (lead.window.filter fun f =>
            f.kind = .normal && f.cursor < f.n).map fun f => .leaderSolo f.pos⟩ with
          now := s.now + 1
          nextTag := s.nextTag + 1
          ctl := s.otherReads r.tag ++ [s.newRead 0 (.fill n) (Addr.plus l.sheet 0x40) 4 1]
          out := s.out ++ [drainWrite l.sheet 0]
          trips := s.trips.map fun x => x.atOpen n }) ∧
    (h.options.twinFollow = true → ¬ passes → l.abort = none → l.closing = none → l.faultDue = none →
      l.state = .opening →
      ∃ t, exec (.sheetHeaderReadComplete r.tag data) s = .next t ∧ (t.lane n).state = .faulted ∧
        (t.lane n).cause = .twinMismatch ∧ (t.lane n).settings = c ∧ (t.lane n).drain = 0 ∧ (t.lane n).taken = 0 ∧
        (t.lane n).fillSeen = 0)

/-- Each condition of a fault moves an open lane to FAULTED with its cause: an invalid sheet, a refused FILL value, and a sheet
header, FILL or descriptor read that fails twice. The state write is issued, the lane's counts, window positions and withdraw
list stay as they were, its board entries are removed or marked for discard, its reads are marked for discard, and a LANE_FAULT
finding waits. A link is lost with the lane: the TWIN_LOST finding, and the other lane's frames and entries alone. While a
closing sequence is in progress the fault waits, the first condition being kept (the model's reading, log entry 22). That the
counts of a lane whose sheet is invalid or not read are those of its last reel (log entry 48), and that the end of a reel that
a DRAINING lane had begun gives way to its fault (log entry 21), is the model's reading too. -/
def Obligations.FaultConditionsFaultTheLane : Prop :=
  ∀ (s : State) (r : CtlRead) (n : LaneId) (c : Instr) (why : Cause),
    s.sentRead r.tag = some r → r.discard = false →
    (s.lane n).abort = none → (s.lane n).state ≠ .closed → (s.lane n).state ≠ .faulted →
    (why = .sheetInvalid ∧ r.kind = .sheetHeader n ∧ (∃ data, c = .sheetHeaderReadComplete r.tag data ∧
        data.length = 64 ∧ ¬ (readSheetHeader data).Legal n) ∨
      why = .markInvalid ∧ r.kind = .fill n ∧ (∃ v, c = .fillReadComplete r.tag v ∧
        (2 ^ (s.lane n).settings.ringLog < (v - (s.lane n).drain).toNat ∨ 2 ^ 31 < (v - (s.lane n).fillSeen).toNat)) ∨
      why = .busFault ∧ r.attempt ≠ 1 ∧ (r.kind = .sheetHeader n ∧ c = .sheetHeaderReadFail r.tag ∨
        r.kind = .fill n ∧ c = .fillReadFail r.tag ∨ r.kind = .descriptor n ∧ c = .descriptorReadFail r.tag)) →
    ((s.lane n).closing ≠ none → exec c s = .next (State.finish
      { s.setLane n { s.lane n with faultDue := some ((s.lane n).faultDue.getD why) } with
        now := s.now + 1, ctl := s.otherReads r.tag })) ∧
    ((s.lane n).closing = none → (s.lane n).faultDue = none → ∃ t, exec c s = .next t ∧ (t.lane n).state = .faulted ∧
      (t.lane n).cause = why ∧ (t.lane n).drain = (s.lane n).drain ∧ (t.lane n).taken = (s.lane n).taken ∧
      (t.lane n).fillSeen = (s.lane n).fillSeen ∧ (t.lane n).withdraws = (s.lane n).withdraws ∧ (t.lane n).ending = none ∧
      (t.lane n).window.map Frame.pos = (s.lane n).window.map Frame.pos ∧
      s.out <+: t.out ∧ stateWrite s.regs n .faulted why ∈ t.out.drop s.out.length ∧
      (∀ e ∈ t.board, e.lane = n → e.state = .fetching ∧ e.discard = true) ∧
      (∀ q ∈ t.ctl, CtlKind.ofReel n q.kind = true → q.discard = true) ∧
      t.strip.waiting.getLast? =
        some ⟨laneFaultFinding n why (s.lane n).drain (s.lane n).taken, .fault n, s.now + 1⟩ ∧
      (s.linked n = false → s.out ++ [stateWrite s.regs n .faulted why] <+: t.out) ∧
      (s.linked n = true → t.link (pairOf n) = ⟨false, []⟩ ∧
        ⟨twinLostFinding (twin n) n 2 (s.lane (twin n)).drain (s.lane (twin n)).taken, .lane (twin n), s.now + 1⟩
          ∈ t.strip.waiting ∧
        (∀ f ∈ (t.lane (twin n)).window, f.pairing ≠ .pending ∧ ∀ q, f.pairing ≠ .paired q) ∧
        (∀ e ∈ t.board, e.lane = twin n → e.partner = none) ∧ (t.lane (twin n)).waits = false))

/-- An accepted FILL value becomes FILL seen and moves the lane: out of OPENING into ACTIVE, or STARVED when it brings no
frame (DRAINING when a CLOSE of the leader waited, the link being lost since too: the model's reading, log entry 27); an
ACTIVE lane with an empty window and no untaken frame into STARVED; a lane STARVED for NO_FRAMES into ACTIVE when it brings
one; it changes no other state. A linked lane leaves OPENING for DRAINING when a CLOSE of the leader waited, for PAUSED when a
pause moved the leader meanwhile and it is still PAUSED, else as any lane does; past OPENING the value moves it as any lane,
and it leaves a lane in TWIN_WAIT there, whose head the twin has not decided. A DRAINING lane takes it in until it is CLOSED.
A CLOSED or FAULTED lane discards the value. -/
def Obligations.FillValueMovesTheLane : Prop :=
  (∀ (s : State) (r : CtlRead) (n : LaneId) (v : Word),
    s.sentRead r.tag = some r → r.kind = .fill n → r.discard = false → s.linked n = true → (s.lane n).abort = none →
    let l := s.lane n
    let m := s.lane (twin n)
    let paused := l.pauseOnFill = true ∧ m.state = .paused
    l.state ≠ .closed → l.state ≠ .faulted →
    (v - l.drain).toNat ≤ 2 ^ l.settings.ringLog → (v - l.fillSeen).toNat ≤ 2 ^ 31 →
    ∃ t, exec (.fillReadComplete r.tag v) s = .next t ∧ (t.lane n).fillSeen = v ∧ (t.lane n).taken = l.taken ∧
      let moves := fun (st : LaneState) (c : Cause) =>
        (t.lane n).state = st ∧ (t.lane n).cause = c ∧ s.out ++ [stateWrite s.regs n st c] <+: t.out
      let stays := (t.lane n).state = l.state ∧ (t.lane n).cause = l.cause
      (l.state = .opening →
        ((t.lane n).opening = .idle ∧ (t.lane n).drainOnFill = false ∧ (t.lane n).pauseOnFill = false) ∧
        (l.drainOnFill = true → moves .draining .noCause) ∧
        (l.drainOnFill = false → paused → moves .paused .noCause) ∧
        (l.drainOnFill = false → ¬ paused → l.window = [] → v ≠ l.taken → moves .active .noCause) ∧
        (l.drainOnFill = false → ¬ paused → l.window = [] → v = l.taken → moves .starved .noFrames)) ∧
      (l.state = .active → l.window = [] → v = l.taken → moves .starved .noFrames) ∧
      (l.state = .active → l.window ≠ [] ∨ v ≠ l.taken → l.pairingHead = none ∨ m.taken ≠ m.fillSeen → stays) ∧
      (l.state = .starved → l.cause = .noFrames → l.window = [] → v ≠ l.taken → moves .active .noCause) ∧
      (l.state = .starved → l.cause = .noFrames → v = l.taken → stays) ∧
      (l.state = .starved → l.cause = .twinWait → m.pairingHead = none → m.state ≠ .draining → stays) ∧
      (l.state = .paused ∨ l.state = .draining → stays)) ∧
  ∀ (s : State) (r : CtlRead) (n : LaneId) (v : Word),
    s.sentRead r.tag = some r → r.kind = .fill n → r.discard = false → s.linked n = false → (s.lane n).abort = none →
    let l := s.lane n
    ((l.state = .closed ∨ l.state = .faulted) → ∃ t, exec (.fillReadComplete r.tag v) s = .next t ∧
      (t.lane n).state = l.state ∧ (t.lane n).fillSeen = l.fillSeen ∧ s.out <+: t.out) ∧
    (l.state ≠ .closed → l.state ≠ .faulted →
      (v - l.drain).toNat ≤ 2 ^ l.settings.ringLog → (v - l.fillSeen).toNat ≤ 2 ^ 31 →
      ∃ t, exec (.fillReadComplete r.tag v) s = .next t ∧ (t.lane n).fillSeen = v ∧ (t.lane n).taken = l.taken ∧
        (t.lane n).drain = l.drain ∧
        let moves := fun (st : LaneState) (c : Cause) =>
          (t.lane n).state = st ∧ (t.lane n).cause = c ∧ s.out ++ [stateWrite s.regs n st c] <+: t.out
        let stays := (t.lane n).state = l.state ∧ (t.lane n).cause = l.cause ∧ s.out <+: t.out
        (l.state = .opening → l.drainOnFill = true → moves .draining .noCause) ∧
        (l.state = .opening → l.drainOnFill = false → v ≠ l.taken → moves .active .noCause) ∧
        (l.state = .opening → l.drainOnFill = false → v = l.taken → moves .starved .noFrames) ∧
        (l.state = .active → l.window = [] → v = l.taken → moves .starved .noFrames) ∧
        (l.state = .active → l.window ≠ [] ∨ v ≠ l.taken → stays) ∧
        (l.state = .starved → l.cause = .noFrames → v ≠ l.taken → moves .active .noCause) ∧
        (l.state = .starved → l.cause ≠ .noFrames ∨ v = l.taken → stays) ∧
        (l.state = .paused ∨ l.state = .draining → stays))

/-- A lane that is ACTIVE, or STARVED with cause TWIN_WAIT, begins a take when its window has room, it knows of an untaken
frame, no take of it is in flight, the evaluations of its last close have been made (the model's reading, log entry 20) and the
part runs: the descriptor at the ring slot of its taken count is read. Otherwise nothing changes. -/
def Obligations.TakeReadsTheDescriptor : Prop :=
  ∀ (s : State) (n : LaneId),
    let l := s.lane n
    let may := (l.state = .active ∨ l.state = .starved ∧ l.cause = .twinWait) ∧ l.abort = none ∧
      l.window.length < 4 ∧ l.taken ≠ l.fillSeen ∧ (∀ q ∈ s.ctl, q.kind ≠ .descriptor n) ∧ s.running = true ∧
      ∀ e ∈ s.evaluations, e.1 ≠ n
    (may → ∃ t, exec (.takeBegin n) s = .next t ∧
      t.ctl = s.ctl ++ [s.newRead 0 (.descriptor n)
        (Addr.plus l.settings.ringBase (l.taken.toNat % 2 ^ l.settings.ringLog * 128)) 96 1] ∧
      (s.linked n = false → t = { s with now := s.now + 1, nextTag := s.nextTag + 1, ctl := t.ctl })) ∧
    (¬ may → exec (.takeBegin n) s = .next s)

/-- The descriptor that arrives places a frame record at the young end of the window: withdrawn when its position is on the
withdraw list, which loses it, else MALFORMED under the checks of its length, stripe count, range count and buffer, else
normal with its unreadable stripes marked. The taken count advances, and the take of the last known frame reads FILL while
there is room. A normal frame of a linked lane is PENDING: it stays so, behind the heads that wait already, while the twin has
no pairing head and does not drain; with a twin that drains it goes solo at once, a take of the twin still in flight or not (the
model's reading, log entry 25); with a head of the twin it is decided by number and length, the frame of the lower number
going solo. -/
def Obligations.DescriptorPlacesTheFrame : Prop :=
  (∀ (s : State) (r : CtlRead) (n : LaneId) (data : List Byte),
    s.sentRead r.tag = some r → r.kind = .descriptor n → r.discard = false → data.length = 96 → s.linked n = true →
    (s.lane n).abort = none → (∀ f ∈ (s.lane n).window, f.pos ≠ (s.lane n).taken) →
    let l := s.lane n
    let m := s.lane (twin n)
    let d := readDescriptor data
    let normal := l.taken ∉ l.withdraws ∧ d.malformed l.settings.exponent = false
    ∃ t, exec (.descriptorReadComplete r.tag data) s = .next t ∧ (t.lane n).taken = l.taken + 1 ∧
      (t.lane n).withdraws = l.withdraws.erase l.taken ∧
      (t.lane n).window.map Frame.pos = l.window.map Frame.pos ++ [l.taken] ∧
      let status := fun (k : LaneId) (pos : Word) => (t.frame? k pos).map fun f => (f.pairing, f.unpaired)
      (¬ normal → status n l.taken = some (.solo .unlinked, false)) ∧
      (normal → m.pairingHead = none → m.state ≠ .draining → status n l.taken = some (.pending, false) ∧
        ∀ g : Frame, l.pairingHead = some g → (t.lane n).pairingHead = some g) ∧
      (normal → l.pairingHead = none → m.pairingHead = none → m.state = .draining →
        status n l.taken = some (.solo .missing, true)) ∧
      ∀ g : Frame, normal → l.pairingHead = none → m.pairingHead = some g → s.frame? (twin n) g.pos = some g →
        (d.number = g.number → d.length = g.length →
          status n l.taken = some (.paired g.pos, false) ∧ status (twin n) g.pos = some (.paired l.taken, g.unpaired)) ∧
        (d.number = g.number → d.length ≠ g.length →
          status n l.taken = some (.solo .length, true) ∧ status (twin n) g.pos = some (.solo .length, true)) ∧
        (d.number.toNat < g.number.toNat → status n l.taken = some (.solo .missing, true)) ∧
        (g.number.toNat < d.number.toNat → status (twin n) g.pos = some (.solo .missing, true))) ∧
  ∀ (s : State) (r : CtlRead) (n : LaneId) (data : List Byte),
    s.sentRead r.tag = some r → r.kind = .descriptor n → r.discard = false → data.length = 96 → s.linked n = false →
    (s.lane n).abort = none → (∀ f ∈ (s.lane n).window, f.pos ≠ (s.lane n).taken) →
    let l := s.lane n
    let d := readDescriptor data
    let size := 2 ^ l.settings.exponent
    let count := (d.length + size - 1) / size
    let legal := 1 ≤ d.length ∧ d.length ≤ 268435456
    let malformed := ¬ legal ∨ 4096 < count ∨ 4 < d.rangeCount ∨ d.buffer = 0
    let listed := l.taken ∈ l.withdraws
    ∃ (t : State) (f : Frame), exec (.descriptorReadComplete r.tag data) s = .next t ∧
      (t.lane n).window = l.window ++ [f] ∧ (t.lane n).taken = l.taken + 1 ∧
      (t.lane n).withdraws = l.withdraws.erase l.taken ∧ (t.lane n).drain = l.drain ∧
      f.pos = l.taken ∧ f.number = d.number ∧ f.length = d.length ∧ f.buffer = d.buffer ∧ f.refAddr = d.refAddr ∧
      f.mendAddr = d.mendAddr ∧ f.recordAddr = d.recordAddr ∧ (legal → f.n = count) ∧ (¬ legal → f.n = 0) ∧
      f.reservation = none ∧ f.pairing = .solo .unlinked ∧ f.refGeometry = false ∧ f.refUnreadable = false ∧
      f.recordSkipped = false ∧ f.unpaired = false ∧
      (listed → f.kind = .withdrawn) ∧ (¬ listed → malformed → f.kind = .malformed) ∧
      (f.kind ≠ .normal → f.stripes = [] ∧ f.ref = .absent) ∧
      (¬ listed → ¬ malformed → f.kind = .normal ∧ f.stripes.length = count ∧
        (d.refAddr = 0 → f.ref = .absent) ∧ (d.refAddr ≠ 0 → f.ref = .waiting) ∧
        ∀ i, i < count → ((f.stripes[i]?.any fun u => u.outcome = some .unreadable) = true ↔
          ∃ slot ∈ d.slots.take d.rangeCount, slot.2 ≠ 0 ∧ slot.1 < d.length ∧
            slot.1 < min ((i + 1) * size) d.length ∧ i * size < min (slot.1 + slot.2) d.length)) ∧
      (l.state = .active → l.taken + 1 = l.fillSeen → l.window.length < 3 → s.running = true →
        (∀ q ∈ s.ctl, q.kind ≠ .fill n) → s.newRead 0 (.fill n) (Addr.plus l.sheet 0x40) 4 1 ∈ t.ctl)

/-- The next reservation of a lane goes to the oldest frame of its window that waits for one, and only when the values not
yet reserved suffice: no later frame is granted ahead of it. Its list read begins with the 16-byte header, or waits for the
part to run. That a frozen part grants and holds the read back as a quiesced one does, and that a FAULTED lane is granted
nothing, is the model's reading (log entry 34). -/
def Obligations.ReservationIsGrantedInOrder : Prop :=
  ∀ (s : State) (n : LaneId) (older younger : List Frame) (f : Frame),
    (s.lane n).window = older ++ f :: younger → (∀ g ∈ older, ¬ (g.kind = .normal ∧ g.ref = .waiting)) →
    f.kind = .normal → f.ref = .waiting → ((s.lane n).window.map Frame.pos).Nodup →
    let l := s.lane n
    let used := (l.window.map fun g => (g.reservation.map List.length).getD 0).sum
    let closes := l.state = .active ∨ l.state = .starved ∨ l.state = .paused ∨ l.state = .draining
    let held := fun st : RefState => older ++ { f with ref := st, reservation := some (List.replicate f.n 0) } :: younger
    (closes → used + f.n ≤ 8192 → s.running = false → exec (.reservationGrant n) s = .next (State.finish
      { s.setLane n { l with window := held .granted } with now := s.now + 1 })) ∧
    (closes → used + f.n ≤ 8192 → s.running = true → (∀ g ∈ l.window, g.ref ≠ .granted) →
      exec (.reservationGrant n) s = .next { s.setLane n { l with window := held .reading } with
        now := s.now + 1
        nextTag := s.nextTag + 1
        ctl := s.ctl ++ [s.newRead 0 (.refHeader n f.pos) f.refAddr 16 1] }) ∧
    (8192 < used + f.n ∨ ¬ closes → exec (.reservationGrant n) s = .next s)

/-- A reference list read of a normal frame: a header that agrees with the frame starts the body, whose values are copied into
the reservation request by request until the frame has its reference; a header that disagrees rejects the list with
REF_GEOMETRY. The body requests are of 128 values, one outstanding at a time (the model's choice, log entry 26). A first
failure starts the attempt anew from the header, a second rejects the list with REF_UNREADABLE; a rejection returns the
reservation and hands over a REFERENCE_REJECTED finding. The list read of a frame withdrawn meanwhile runs to the end of its
attempt, without effect on the frame, with no second attempt and no finding; that it goes on to the body whatever its header
says is the model's reading (log entry 23). -/
def Obligations.ReferenceListIsRead : Prop :=
  (∀ (s : State) (r : CtlRead) (n : LaneId) (pos : Word) (f : Frame),
    s.sentRead r.tag = some r → s.frame? n pos = some f → f.kind = .withdrawn → (s.lane n).abort = none →
    (s.lane n).state ≠ .draining →
    let ended := State.finish { s with now := s.now + 1, ctl := s.otherReads r.tag }
    ((r.kind = .refHeader n pos ∨ ∃ first, r.kind = .refBody n pos first) →
      exec (.refListReadFail r.tag) s = .next ended) ∧
    (r.kind = .refHeader n pos → r.discard = false → ∀ data : List Byte, data.length = 16 →
      exec (.refHeaderArrival r.tag data) s = .next { s with
        now := s.now + 1
        nextTag := s.nextTag + 1
        ctl := s.otherReads r.tag ++
          [s.newRead 0 (.refBody n pos 0) (Addr.plus f.refAddr 16) (4 * min 128 f.n) r.attempt] }) ∧
    ∀ first : Nat, r.kind = .refBody n pos first → r.discard = false → ∀ data : List Byte, data.length = r.len →
      f.n ≤ first + min 128 (f.n - first) → exec (.refBodyComplete r.tag data) s = .next ended) ∧
  ∀ (s : State) (r : CtlRead) (n : LaneId) (pos : Word) (f : Frame),
    s.sentRead r.tag = some r → r.discard = false → s.frame? n pos = some f → f.kind = .normal →
    let rejected := fun (t : State) (code : Nat) => ∃ g, t.frame? n pos = some g ∧ g.ref = .absent ∧
      g.reservation = none ∧ g.refGeometry = (f.refGeometry || code = 1) ∧
      g.refUnreadable = (f.refUnreadable || code = 2) ∧ t.ctl = s.otherReads r.tag ∧
      t.strip.waiting = s.strip.waiting ++ [⟨referenceRejectedFinding n f code, .lane n, s.now + 1⟩]
    (r.kind = .refHeader n pos → ∀ data : List Byte, data.length = 16 →
      let agrees := field data 0 1 = (s.lane n).settings.exponent ∧ field data 4 4 = f.n ∧ field data 8 4 = f.length
      (agrees → exec (.refHeaderArrival r.tag data) s = .next { s with
        now := s.now + 1
        nextTag := s.nextTag + 1
        ctl := s.otherReads r.tag ++
          [s.newRead 0 (.refBody n pos 0) (Addr.plus f.refAddr 16) (4 * min 128 f.n) r.attempt] }) ∧
      (¬ agrees → ∃ t, exec (.refHeaderArrival r.tag data) s = .next t ∧ rejected t 1)) ∧
    (∀ first : Nat, r.kind = .refBody n pos first → ∀ (data : List Byte) (held : List Word),
      let m := min 128 (f.n - first)
      data.length = r.len → r.len = 4 * m → first ≤ f.n → f.reservation = some held → held.length = f.n →
      ∃ (t : State) (g : Frame) (now : List Word), exec (.refBodyComplete r.tag data) s = .next t ∧
        t.frame? n pos = some g ∧ g.reservation = some now ∧ now.length = f.n ∧
        (∀ i, i < f.n → now[i]? =
          if first ≤ i ∧ i < first + m then some (natWord (field data (4 * (i - first)) 4)) else held[i]?) ∧
        (first + m < f.n → g.ref = f.ref ∧ t.ctl = s.otherReads r.tag ++
          [s.newRead 0 (.refBody n pos (first + m)) (Addr.plus f.refAddr (16 + 4 * (first + m)))
            (4 * min 128 (f.n - (first + m))) r.attempt]) ∧
        (f.n ≤ first + m → g.ref = .present ∧ t.ctl = s.otherReads r.tag)) ∧
    ((r.kind = .refHeader n pos ∨ ∃ first, r.kind = .refBody n pos first) →
      (r.attempt = 1 → exec (.refListReadFail r.tag) s = .next { s with
        now := s.now + 1
        nextTag := s.nextTag + 1
        ctl := s.otherReads r.tag ++ [s.newRead 0 (.refHeader n pos) f.refAddr 16 2] }) ∧
      (r.attempt ≠ 1 → ∃ t, exec (.refListReadFail r.tag) s = .next t ∧ rejected t 2))

/-! ### Recalls -/

/-- A RECALL write stays in the register and asks the lane of bits 31:29 for the position P within 32,768 of its DRAIN whose
low 16 bits were written. By where P stands it is refused with RECALL_REFUSED, answered late with a finding, listed at its
place in ring order, or accepted without change. A DRAINING lane refuses a position not yet taken, but for the one being
taken, its descriptor read in flight, which is listed as in any state (the model's reading, log entry 46). -/
def Obligations.RecallIsJudgedByPosition : Prop :=
  (∀ value drain : Word,
    let p := recallPosition value drain
    p.extractLsb' 0 16 = value.extractLsb' 0 16 ∧
      (recallBefore value drain = false → (p - drain).toNat < 32768) ∧
      (recallBefore value drain = true → 1 ≤ (drain - p).toNat ∧ (drain - p).toNat ≤ 32768)) ∧
  ∀ (s : State) (value : Word), s.Settled →
    let n := recallLane value
    let l := s.lane n
    let p := recallPosition value l.drain
    let u := { s with now := s.now + 1, regs := { s.regs with recallReg := value } }
    let closedTo := l.state = .closed ∨ l.state = .faulted ∨ l.abort ≠ none ∨ l.state = .opening ∧ l.opening ≠ .fillRead
    let late := { u with strip := { s.strip with waiting := s.strip.waiting ++
      [⟨recallLateFinding n p l.drain, .lane n, s.now + 1⟩] } }
    n.val = value.toNat / 2 ^ 29 ∧
    (closedTo → exec (.recallWrite value) s = .next (State.raise u .recallRefused)) ∧
    (¬ closedTo →
      (recallBefore value l.drain = true → exec (.recallWrite value) s = .next late) ∧
      (recallBefore value l.drain = false →
        (∀ f fs, l.window = f :: fs → f.pos = p → l.closing ≠ none → exec (.recallWrite value) s = .next late) ∧
        (∀ f, s.frame? n p = some f → f.kind = .withdrawn → l.closing = none → exec (.recallWrite value) s = .next u) ∧
        (s.frame? n p = none →
          let far := 2 ^ l.settings.ringLog ≤ (p - l.drain).toNat
          let takenNow := p = l.taken ∧ ∃ r ∈ s.ctl, r.kind = .descriptor n
          (far ∨ (l.state = .draining ∧ ¬ takenNow) →
            exec (.recallWrite value) s = .next (State.raise u .recallRefused)) ∧
          (¬ far → (l.state = .draining → takenNow) →
            (p ∈ l.withdraws → exec (.recallWrite value) s = .next u) ∧
            (p ∉ l.withdraws → 4 ≤ l.withdraws.length →
              exec (.recallWrite value) s = .next (State.raise u .recallRefused)) ∧
            (p ∉ l.withdraws → l.withdraws.length < 4 → ∃ before after : List Word, l.withdraws = before ++ after ∧
              (∀ q ∈ before, (q - l.drain).toNat < (p - l.drain).toNat) ∧
              (∀ q, after.head? = some q → (p - l.drain).toNat ≤ (q - l.drain).toNat) ∧
              exec (.recallWrite value) s = .next
                (u.setLane n { l with withdraws := before ++ p :: after }))))))

/-- A recall of a normal or MALFORMED frame of the window whose closing sequence has not begun withdraws it: its stripe
verdicts are dropped, its reservation held, its QUEUED and HELD board entries removed and its FETCHING ones marked. On an
unlinked lane nothing else changes. The partner of a PAIRED frame of a linked pair goes solo with reason WITHDRAWN, its
UNPAIRED flag set and its finding handed over; its entries lose their partners, and those HELD are settled as solo stripes,
their stripes leaving the vote wait list; no item of the pair issue queue names the withdrawn frame; and the mends of the
frame are cancelled, with a CANCELLED finding when the recipient is on the partner's lane and no fault condition of
that lane waits: those that wait leave the queue, the active one is stopped. A frame of a
linked pair that is SOLO is withdrawn without effect on the twin's frames and entries, its item leaving the queue; and a
PENDING one stops being a pairing head, its lane staying in TWIN_WAIT when it has a later head, and leaving it for ACTIVE when
it has none. -/
def Obligations.RecallWithdrawsTheFrame : Prop :=
  (∀ (s : State) (value : Word) (f g : Frame) (q : Word),
    let n := recallLane value
    let m := twin n
    let l := s.lane n
    let p := recallPosition value l.drain
    l.abort = none → l.closing = none → (s.lane m).closing = none → s.linked n = true →
    (∀ v ∈ s.votes, v.pair = pairOf n ∧ (if isFollower n then v.followerPos else v.leaderPos) = p) →
    l.state = .active ∨ l.state = .starved ∨ l.state = .paused ∨ l.state = .draining →
    recallBefore value l.drain = false → s.frame? n p = some f → f.kind = .normal → f.pairing = .paired q →
    s.frame? m q = some g → g.kind = .normal →
    let apart := s.mender.queue.Pairwise fun y z => ¬ (y.lane = z.lane ∧ y.pos = z.pos ∧ y.stripe = z.stripe)
    let kept := fun ys : List MendReq => ys.filter fun y => !y.names n p
    let reports := fun (t : State) (x : Finding) =>
      ((s.lane m).faultDue = none → ⟨x, .lane m, s.now + 1⟩ ∈ t.strip.waiting) ∧
      ((s.lane m).faultDue ≠ none → ∀ w ∈ t.strip.waiting.drop s.strip.waiting.length, w.finding ≠ x)
    ∃ t, exec (.recallWrite value) s = .next t ∧ t.regs.recallReg = value ∧
      ((t.frame? n p).map fun h => (h.kind, h.stripes, h.pairing, h.reservation)) =
        some (.withdrawn, [], .solo .unlinked, f.reservation) ∧
      ((t.frame? m q).map fun h => (h.kind, h.pairing, h.unpaired)) = some (.normal, .solo .withdrawn, true) ∧
      ⟨frameUnpairedFinding m g .withdrawn, .lane m, s.now + 1⟩ ∈ t.strip.waiting ∧
      (∀ e ∈ t.board, e.lane = n → e.pos = p → e.state = .fetching ∧ e.discard = true) ∧
      (∀ e ∈ t.board, e.lane = m → e.pos = q → e.partner = none ∧ (e.state = .held → e.outcome = none)) ∧
      (∀ (e : Entry) (x : SideOutcome), s.entry? m q e.stripe = some e → e.state = .held → e.outcome = some x →
        (∀ e' ∈ s.board, e'.isAt m q e.stripe = true → e' = e) → e.stripe < g.stripes.length →
        ((t.frame? m q).bind fun h => h.stripes[e.stripe]?) = some (settledStripe (g.refValue e.stripe) x none)) ∧
      t.votes = [] ∧
      (∀ i ∈ (t.link (pairOf n)).queue, ∀ a b : Word, i = .both a b → if isFollower n then b ≠ p else a ≠ p) ∧
      ((∀ x ∈ s.mender.queue, MendReq.names x n p = false) → t.mender = s.mender) ∧
      (apart → s.mender.engine = .idle → t.mender = ⟨kept s.mender.queue, .idle⟩ ∧
        ∀ x ∈ s.mender.queue, x.lane = m → x.donorLane = n → x.donorPos = p →
          reports t (mendFailedFinding m x.pos (s.frameNumber m x.pos) x.stripe .cancelled n p 0 0)) ∧
      (∀ (x : MendReq) (rest : List MendReq), apart → s.mender.queue = x :: rest → s.mender.engine ≠ .idle →
        MendReq.names x n p = false → t.mender = ⟨x :: kept rest, s.mender.engine⟩ ∧
        ∀ y ∈ rest, y.lane = m → y.donorLane = n → y.donorPos = p →
          reports t (mendFailedFinding m y.pos (s.frameNumber m y.pos) y.stripe .cancelled n p 0 0)) ∧
      ∀ (x : MendReq) (rest : List MendReq) (c : Copy), s.mender.queue = x :: rest → s.mender.engine = .copying c →
        (∀ y ∈ rest, MendReq.names y n p = false) → c.stream.outstanding ≠ [] →
        (x.donorLane = n → x.donorPos = p → x.lane = m → x.pos = q →
          t.mender = ⟨x :: rest, .stopping c.stream.outstanding⟩ ∧
          reports t (mendFailedFinding m q g.number x.stripe .cancelled n p 0 0)) ∧
        (x.donorLane = m → x.donorPos = q → x.lane = n → x.pos = p →
          t.mender = ⟨x :: rest, .stopping c.stream.outstanding⟩)) ∧
  (∀ (s : State) (value : Word) (f : Frame),
    let n := recallLane value
    let m := twin n
    let l := s.lane n
    let p := recallPosition value l.drain
    let undecided := fun g : Frame => g.kind = .normal ∧ g.pairing = .pending
    l.abort = none → l.closing = none → s.linked n = true → s.votes = [] → s.decideNext (pairOf n) = none →
    (∀ x ∈ s.mender.queue, MendReq.names x n p = false) →
    l.state = .active ∨ l.state = .starved ∨ l.state = .paused ∨ l.state = .draining →
    recallBefore value l.drain = false → s.frame? n p = some f → f.kind ≠ .withdrawn → (∀ q, f.pairing ≠ .paired q) →
    ∃ t, exec (.recallWrite value) s = .next t ∧ t.regs.recallReg = value ∧
      (t.lane n).window = l.window.map (fun g =>
        if g.pos = p then { g with kind := .withdrawn, stripes := [], pairing := .solo .unlinked } else g) ∧
      t.board = s.board.filterMap (fun e =>
        if e.lane = n ∧ e.pos = p then (if e.state = .fetching then some { e with discard := true } else none)
        else some e) ∧
      t.mender = s.mender ∧ t.strip.waiting = s.strip.waiting ∧ (t.lane m).window = (s.lane m).window ∧
      (∀ i ∈ (t.link (pairOf n)).queue, i ≠ if isFollower n then .followerSolo p else .leaderSolo p) ∧
      (l.waits = true → (∀ g ∈ l.window, undecided g → g.pos = p) → (t.lane n).state = .active ∧
        (t.lane n).cause = .noCause ∧ stateWrite s.regs n .active .noCause ∈ t.out.drop s.out.length) ∧
      (l.waits = true → (∃ g ∈ l.window, undecided g ∧ g.pos ≠ p) → (t.lane n).waits = true)) ∧
  ∀ (s : State) (value : Word) (f : Frame),
    let n := recallLane value
    let l := s.lane n
    let p := recallPosition value l.drain
    let u := { s.setLane n { l with window := l.window.map fun g =>
        if g.pos = p then { g with kind := .withdrawn, stripes := [], pairing := .solo .unlinked } else g } with
      now := s.now + 1
      regs := { s.regs with recallReg := value }
      board := s.board.filterMap fun e =>
        if e.lane = n ∧ e.pos = p then (if e.state = .fetching then some { e with discard := true } else none)
        else some e }
    l.abort = none → l.closing = none → l.cause ≠ .twinWait → s.linked n = false → s.votes = [] →
    l.state = .active ∨ l.state = .starved ∨ l.state = .paused ∨ l.state = .draining →
    recallBefore value l.drain = false → s.frame? n p = some f → f.kind ≠ .withdrawn →
    (∀ q ∈ s.mender.queue, MendReq.names q n p = false) → exec (.recallWrite value) s = .next (State.finish u)

/-! ### Pacing -/

/-- The tick that finds a running pace counter at 0 spends the extra tick of a lengthened period, or is an underflow: a
permit is held, the counter reloads with P, and the fine group index advances. A poll expiry reloads the poll counter and is
a cause for a FILL read. A millisecond of a starve is counted, saturating, and the one that reaches STARVE_LIMIT hands over a
STALL finding, once a starve. A counter that does not run lets the tick pass. That each of these commands is such a tick
whatever the counter holds is the model's choice (log entry 9). -/
def Obligations.PaceCountersCount : Prop :=
  ∀ (s : State) (n : LaneId),
    let l := s.lane n
    let p := l.pacing
    let paces := (l.state = .active ∨ l.state = .starved ∨ l.state = .draining) ∧ l.abort = none ∧
      ¬ (n.val % 2 = 1 ∧ s.linked n = true) ∧ l.settings.paceReload ≠ 0 ∧ s.running = true
    let starves := l.state = .starved ∧ l.abort = none ∧ s.running = true
    let extra := (p.group - 1) * l.settings.paceFine / 16 < p.group * l.settings.paceFine / 16 ∧ p.extraSpent = false
    let ms := min (p.starveMs + 1) 4294967295
    let stalls := l.settings.starveLimit ≠ 0 ∧ l.settings.starveLimit ≤ ms ∧ p.reported = false
    (paces → extra → exec (.paceUnderflow n) s = .next
      { s.setLane n { l with pacing := { p with count := 0, extraSpent := true } } with now := s.now + 1 }) ∧
    (paces → ¬ extra → exec (.paceUnderflow n) s = .next
      { s.setLane n { l with pacing := { p with
          count := l.settings.paceReload
          group := if p.group < 16 then p.group + 1 else 1
          extraSpent := false
          permit := true } } with now := s.now + 1 }) ∧
    (¬ paces → exec (.paceUnderflow n) s = .next s) ∧
    (starves → exec (.pollExpiry n) s = .next (State.fillCause
      { s.setLane n { l with pacing := { p with poll := l.settings.pollInterval * 100 } } with now := s.now + 1 } n)) ∧
    (starves → ¬ stalls → exec (.starveMsTick n) s = .next
      { s.setLane n { l with pacing := { p with starveMs := ms } } with now := s.now + 1 }) ∧
    (starves → stalls → exec (.starveMsTick n) s = .next
      { s.setLane n { l with pacing := { p with starveMs := ms, reported := true } } with
        now := s.now + 1
        strip := { s.strip with waiting := s.strip.waiting ++
          [⟨⟨6, BitVec.ofNat 8 n.val, BitVec.ofNat 8 l.cause.code, 0, natWord ms, l.drain, l.fillSeen, 0, 0, 0⟩,
            .lane n, s.now + 1⟩] } }) ∧
    (¬ starves → exec (.pollExpiry n) s = .next s ∧ exec (.starveMsTick n) s = .next s)

/-- A group of 16 periods lasts 16·(P + 1) + F ticks of a running pace counter, and leaves the counter at its reload, the
index at 1 and a permit held. -/
def Obligations.PaceGroupLastsItsTicks : Prop :=
  ∀ l : Lane, l.pacing.count = l.settings.paceReload → l.pacing.group = 1 → l.pacing.extraSpent = false →
    l.settings.paceFine ≤ 15 →
    Nat.repeat Lane.paceTick (16 * (l.settings.paceReload + 1) + l.settings.paceFine) l =
      { l with pacing := { l.pacing with permit := true } }

/-! ### The stripe board and the read port -/

/-- An unlinked lane that is ACTIVE or DRAINING issues the next readable stripe of its oldest frame with stripes left, once
the reference outcomes of that frame and of every frame before it are settled (that an older frame with no readable stripe
holds it back too is R10 and R33 followed where R78 differs, log entry 41), when it holds a permit or is unpaced, its quota
count is below 8, and the board has room (for all issues that wait, or it is the lane's turn): a QUEUED CHECK entry joins the
board, the cursor moves on, the permit is used, and the lane's turn is over. Without one of these nothing changes. -/
def Obligations.CheckEntryIsIssued : Prop :=
  ∀ (s : State) (n : LaneId), s.linked n = false →
    let l := s.lane n
    let able := ((l.state = .active ∨ l.state = .draining) ∧ l.abort = none) ∧
      (l.settings.paceReload = 0 ∨ l.pacing.permit = true) ∧ (s.board.countP fun e => e.lane = n) < 8 ∧
      s.board.length < 32 ∧ s.running = true
    (¬ able → exec (.checkIssue n) s = .next s) ∧
    ((∀ f ∈ l.window, f.kind = .normal → f.n ≤ f.cursor) → exec (.checkIssue n) s = .next s) ∧
    (∀ f : Frame, (l.window.find? fun g => g.kind = .normal && (g.cursor < g.n || !g.refSettled)) = some f →
      f.ref ≠ .present → f.ref ≠ .absent → exec (.checkIssue n) s = .next s) ∧
    (32 - s.board.length < s.demand → s.issueTurn ≠ some n → exec (.checkIssue n) s = .next s) ∧
    (∀ f : Frame, able → (l.window.find? fun g => g.kind = .normal && (g.cursor < g.n || !g.refSettled)) = some f →
      f.ref = .present ∨ f.ref = .absent → s.frame? n f.pos = some f →
      s.demand ≤ 32 - s.board.length ∨ s.issueTurn = some n →
      let i := f.cursor
      let size := 2 ^ l.settings.exponent
      exec (.checkIssue n) s = .next
        { s.setLane n { l with
            window := l.window.map fun g =>
              if g.pos = f.pos then { g with cursor := nextReadable g.stripes (i + 1) } else g
            pacing := { l.pacing with permit := false } } with
          now := s.now + 1
          arbiter := { s.arbiter with issueNext := n + 1 }
          board := s.board ++ [{
            lane := n
            pos := f.pos
            stripe := i
            src := Addr.plus f.buffer (i * size)
            len := min ((i + 1) * size) f.length - i * size
            purpose := .check
            first := none
            current := none
            partner := none
            discard := false
            state := .queued
            outcome := none }] })

/-- Under a permit of its leader, a linked pair issues the lowest stripe not yet issued of its current item: both entries of a
stripe readable on both sides, partners of one another, and the one entry of a stripe readable on one side, without a partner;
a solo item is issued on its own lane. One permit of the leader is used. An issue of a paired item counts in the turn of the
lanes as the leader's, one of a solo item as its own lane's. Nothing is placed without a permit, with nothing left in the
queue, while a reference outcome of the item's frames is pending, or that of an older frame of a lane that would receive an
entry (log entry 41), while such a lane has its quota full or may not issue, or when the board has no room for all issues that
wait and it is not the issue's turn. That a follower-solo item asks nothing of the leader's state, and so may use a permit the
leader has held since a PAUSE, is the model's choice (log entry 53). -/
def Obligations.PairIssuesTogether : Prop :=
  (∀ (s : State) (p : PairId), (s.link p).linked = true →
    let still := exec (.pairedIssue p) s = .next s ∧ exec (.checkIssue (leader p)) s = .next s ∧
      exec (.checkIssue (follower p)) s = .next s
    ((s.lane (leader p)).settings.paceReload ≠ 0 → (s.lane (leader p)).pacing.permit = false → still) ∧
    (s.running = false → still) ∧ (s.currentItem p = none → still) ∧
    (∀ (n : LaneId) (pos : Word) (f : Frame), (n = leader p ∧ s.currentItem p = some (.leaderSolo pos) ∨
        n = follower p ∧ s.currentItem p = some (.followerSolo pos)) → s.frame? n pos = some f →
      f.refSettled = false ∨ (s.lane n).clearTo pos = false ∨ s.quotaRoom n = false ∨ (s.lane n).issuesAlone = false ∨
        (32 - s.board.length < s.demand ∧ s.issueTurn ≠ some n) → still) ∧
    ∀ (lp fp : Word) (a b : Frame), s.currentItem p = some (.both lp fp) → s.frame? (leader p) lp = some a →
      s.frame? (follower p) fp = some b →
      a.refSettled = false ∨ b.refSettled = false ∨ (a.cursor ≤ b.cursor ∧ s.takesPaired (leader p) lp = false) ∨
        (b.cursor ≤ a.cursor ∧ s.takesPaired (follower p) fp = false) ∨
        (32 - s.board.length < s.demand ∧ s.issueTurn ≠ some (leader p)) → still) ∧
  (∀ (s : State) (n : LaneId) (pos : Word),
    let l := s.lane n
    (s.takesPaired n pos = true ↔ (l.state = .active ∨ l.state = .draining ∨ l.state = .starved ∧ l.cause = .twinWait) ∧
      l.abort = none ∧ (s.board.countP fun e => e.lane = n) < 8 ∧ l.clearTo pos = true) ∧
    ∀ (older younger : List Frame) (f : Frame), l.window = older ++ f :: younger → f.pos = pos →
      (∀ g ∈ older, g.pos ≠ pos) →
      (l.clearTo pos = true ↔ ∀ g ∈ older, g.kind = .normal → g.ref = .present ∨ g.ref = .absent)) ∧
  ∀ (s : State) (p : PairId),
    (s.link p).linked = true → (s.lane (leader p)).settings.paceReload = 0 ∨ (s.lane (leader p)).pacing.permit = true →
    s.running = true → s.board.length + 2 ≤ 32 →
    let turn := fun n : LaneId => s.demand ≤ 32 - s.board.length ∨ s.issueTurn = some n
    let used := fun (t : State) (n : LaneId) =>
      (t.lane (leader p)).pacing.permit = false ∧ t.arbiter = { s.arbiter with issueNext := n + 1 }
    (turn (leader p) → ∀ (lp fp : Word) (a b : Frame), s.currentItem p = some (.both lp fp) → s.frame? (leader p) lp = some a →
      s.frame? (follower p) fp = some b → a.refSettled = true → b.refSettled = true →
      (a.cursor = b.cursor → s.takesPaired (leader p) lp = true → s.takesPaired (follower p) fp = true →
        ∃ t, exec (.pairedIssue p) s = .next t ∧ used t (leader p) ∧ t.board = s.board ++
          [newEntry (s.lane (leader p)).settings.exponent (leader p) a a.cursor (some fp),
            newEntry (s.lane (follower p)).settings.exponent (follower p) b a.cursor (some lp)]) ∧
      (a.cursor < b.cursor → s.takesPaired (leader p) lp = true →
        ∃ t, exec (.pairedIssue p) s = .next t ∧ used t (leader p) ∧ t.board = s.board ++
          [newEntry (s.lane (leader p)).settings.exponent (leader p) a a.cursor none]) ∧
      (b.cursor < a.cursor → s.takesPaired (follower p) fp = true →
        ∃ t, exec (.pairedIssue p) s = .next t ∧ used t (leader p) ∧ t.board = s.board ++
          [newEntry (s.lane (follower p)).settings.exponent (follower p) b b.cursor none])) ∧
    (∀ (n : LaneId) (pos : Word) (f : Frame), (n = leader p ∧ s.currentItem p = some (.leaderSolo pos) ∨
        n = follower p ∧ s.currentItem p = some (.followerSolo pos)) →
      s.frame? n pos = some f → f.refSettled = true → (s.lane n).clearTo pos = true → (s.lane n).issuesAlone = true →
      s.quotaRoom n = true → turn n →
      ∃ t, exec (.checkIssue n) s = .next t ∧ used t n ∧ t.board = s.board ++
        [newEntry (s.lane n).settings.exponent n f f.cursor none])

/-- The read port grants the control read that began to wait first, if one waits; else a class that waits alone, or the class
that did not receive the last grant between stripe and mend, in the stripe class the first context in turn that has a request
ready. A context's request goes up to the next 512-byte boundary. A free context takes the head entry of the first lane in
turn that has one, its accumulator at all ones, while the part runs. -/
def Obligations.PortGrantsAndFetchesInTurn : Prop :=
  (∀ (s : State) (pick : Nat), s.ReadsInOrder → (∃ r ∈ s.ctl, r.sent = false) →
    ∃ r ∈ s.ctl, r.sent = false ∧ (∀ q ∈ s.ctl, q.sent = false → r.since ≤ q.since) ∧
      exec (.arbiterGrant pick) s = .next { s with
        now := s.now + 1
        ctl := s.ctl.map fun q => if q.tag = r.tag then { q with sent := true, sentAt := s.clock } else q }) ∧
  (∀ (s : State) (pick : Nat), (∀ r ∈ s.ctl, r.sent = true) →
    let stripe := ∃ (c : CtxId) (f : Fetch), s.ctx c = some f ∧ f.stream.ready = true
    let mend := ∃ c : Copy, s.mender.engine = .copying c ∧ c.stream.ready = true
    (¬ stripe → ¬ mend → exec (.arbiterGrant pick) s = .next s) ∧
    (stripe → ¬ mend ∨ s.arbiter.lastMend = true → ∃ (k c : CtxId) (f : Fetch), c = s.arbiter.ctxNext + k ∧
      (∀ j : CtxId, j < k → ∀ g : Fetch, s.ctx (s.arbiter.ctxNext + j) = some g → g.stream.ready = false) ∧
      s.ctx c = some f ∧ f.stream.ready = true ∧
      let len := min (512 - (f.stream.src.toNat + f.stream.next) % 512) (f.stream.len - f.stream.next)
      exec (.arbiterGrant pick) s = .next
        { s.setCtx c (some { f with stream := { f.stream with
            next := f.stream.next + len
            outstanding := f.stream.outstanding ++ [⟨s.nextTag, f.stream.next, len, 0, s.clock⟩] } }) with
          now := s.now + 1
          nextTag := s.nextTag + 1
          arbiter := { s.arbiter with ctxNext := c + 1, lastMend := false } }) ∧
    (∀ c : Copy, s.mender.engine = .copying c → c.stream.ready = true → ¬ stripe ∨ s.arbiter.lastMend = false →
      let len := min (512 - (c.stream.src.toNat + c.stream.next) % 512) (c.stream.len - c.stream.next)
      exec (.arbiterGrant pick) s = .next { s with
        now := s.now + 1
        nextTag := s.nextTag + 1
        mender := { s.mender with engine := .copying { c with stream := { c.stream with
          next := c.stream.next + len
          outstanding := c.stream.outstanding ++ [⟨s.nextTag, c.stream.next, len, 0, s.clock⟩] } } }
        arbiter := { s.arbiter with lastMend := true } })) ∧
  ∀ (s : State) (c : CtxId),
    (s.ctx c ≠ none ∨ (∀ n, s.headEntry n = none) → exec (.fetchStart c) s = .next s) ∧
    (∀ (k : LaneId) (e : Entry), s.ctx c = none → s.running = true →
      (∀ j : LaneId, j < k → s.headEntry (s.arbiter.fetchNext + j) = none) →
      s.headEntry (s.arbiter.fetchNext + k) = some e →
      exec (.fetchStart c) s = .next
        { s.setCtx c (some ⟨e.lane, e.pos, e.stripe, {
            src := e.src, len := e.len, crc := 0xFFFFFFFF#32, next := 0, absorbed := 0, outstanding := [], kept := []
            failed := false }⟩) with
          now := s.now + 1
          board := s.board.map fun x =>
            if x.isAt e.lane e.pos e.stripe then { x with state := .fetching } else x
          arbiter := { s.arbiter with fetchNext := e.lane + 1 } })

/-- A stream that is given the stripe's own bytes, in parts and in any order, absorbs them in address order and each once:
what it has absorbed is a front part of the stripe, each arrival adds the next bytes of it, and the value it ends with is the
check value of the whole stripe. -/
def Obligations.StreamDigestsInAddressOrder : Prop :=
  ∀ (bytes : List Byte) (src : Addr),
    (Stream.start src bytes.length).Reads bytes ∧
    ∀ t : Stream, t.Reads bytes →
      (∀ (tag clock : Nat), (t.send tag clock).Reads bytes ∧ (t.failReq tag).Reads bytes) ∧
      (∀ (tag : Nat) (addr : Addr) (data : List Byte),
        data = (bytes.drop (addr - t.src).toNat).take data.length →
        (t.receive tag addr data).1.Reads bytes ∧ t.absorbed ≤ (t.receive tag addr data).1.absorbed ∧
          (t.receive tag addr data).2 =
            (bytes.drop t.absorbed).take ((t.receive tag addr data).1.absorbed - t.absorbed)) ∧
      ∀ v, t.value? = some v → v = crcValue bytes

/-- The end of a fetch frees its context. An entry marked for discard leaves the board. A CHECK that fails is re-queued at
the head as a RETRY; a value that differs from the reference under CONFIRM is re-queued at the head as a CONFIRM; otherwise
the side has its outcome. A confirm read without a reference, the re-read of a twin disagreement, is judged by its own first
value and the other side's. An entry without a partner (a solo one, or the one readable side of a paired stripe) is settled
under the reference and removed; one with a partner becomes HELD with its outcome, and when its partner is HELD as well the
vote of VoteSettlesBothSides follows. A fetch that is not at its end holds its context; a failed one ends when nothing of it is
outstanding, whether the last of it completes or fails. -/
def Obligations.FetchEndIsHandled : Prop :=
  ∀ (s : State) (tag : Nat) (d : CtxId) (f : Fetch) (e : Entry) (g : Frame), s.ctxOf tag = some d → s.ctx d = some f →
    s.entry? f.lane f.pos f.stripe = some e → s.frame? f.lane f.pos = some g → (s.lane f.lane).abort = none →
    let ref := g.refValue f.stripe
    let others := s.board.filter fun x => !x.isAt f.lane f.pos f.stripe
    let confirms := (s.lane f.lane).settings.options.confirm
    let freed := fun t : State => t.ctx d = none ∧ ∀ k, k ≠ d → t.ctx k = s.ctx k
    let solo := e.partner = none
    let other := e.partner.bind fun q => (s.entry? (twin f.lane) q f.stripe).bind Entry.first
    let settles := fun (c : Instr) (x : SideOutcome) => ∃ t, exec c s = .next t ∧ freed t ∧ t.board = others ∧
      t.frame? f.lane f.pos = some { g with stripes := g.stripes.modify f.stripe fun _ => settledStripe ref x none }
    let requeues := fun (c : Instr) (purpose : Purpose) (value : Option Word) => ∃ t, exec c s = .next t ∧ freed t ∧
      t.lanes = s.lanes ∧ t.board =
        { e with purpose := purpose, first := value, current := value, state := .queued, outcome := none } :: others
    let removed := fun c : Instr => ∃ t, exec c s = .next t ∧ freed t ∧ t.board = others ∧ t.lanes = s.lanes
    let gives := fun (c : Instr) (x : SideOutcome) => (solo → settles c x) ∧ ∀ q, e.partner = some q →
      let v := { s.setCtx d none with
        now := s.now + 1
        board := s.board.map fun y => if y.isAt f.lane f.pos f.stripe
          then { y with state := .held, outcome := some x, current := x.value? } else y }
      let after := if isFollower f.lane then v.tryVote (pairOf f.lane) q f.pos f.stripe
        else v.tryVote (pairOf f.lane) f.pos q f.stripe
      exec c s = .next (State.finish after) ∧
        ((∀ y, s.entry? (twin f.lane) q f.stripe = some y → y.state ≠ .held) → after = v)
    let fails := fun c : Instr =>
      (e.discard = true → removed c) ∧ (e.discard = false → e.purpose = .check → requeues c .retry none) ∧
      (e.discard = false → e.purpose = .retry → gives c (.transit .busFailed)) ∧
      (e.discard = false → e.purpose = .confirm → gives c (.computed (e.first.getD 0)))
    (∀ (addr : Addr) (data : List Byte),
      let r := (f.stream.receive tag addr data).1
      let arrival := Instr.fetchCompletion tag addr data
      (r.value? = none → ¬ (r.failed = true ∧ r.outstanding = []) → exec arrival s = .next
        { s.setCtx d (some { f with stream := r }) with now := s.now + 1 }) ∧
      (r.failed = true → r.outstanding = [] → fails arrival) ∧
      ∀ v, r.value? = some v →
        (e.discard = true → removed arrival) ∧
        (e.discard = false → e.purpose ≠ .confirm → confirms = true → (∃ w, ref = some w ∧ v ≠ w) →
          requeues arrival .confirm (some v)) ∧
        (e.discard = false → e.purpose ≠ .confirm → confirms = false ∨ ref = none ∨ ref = some v →
          gives arrival (.computed v)) ∧
        (∀ w, e.discard = false → e.purpose = .confirm → ref = some w →
          gives arrival (if v = w then .transit .transient else if some v = e.first then .computed v
            else .transit .unstable)) ∧
        (e.discard = false → e.purpose = .confirm → ref = none →
          gives arrival (if some v = e.first then .computed v else if some v = other then .transit .transient
            else .transit .unstable))) ∧
    (let failure := Instr.fetchRequestFail tag
    let rest := f.stream.outstanding.filter fun q => q.tag ≠ tag
    (rest ≠ [] → exec failure s = .next
      { s.setCtx d (some { f with stream := { f.stream with failed := true, kept := [], outstanding := rest } }) with
        now := s.now + 1 }) ∧
    (rest = [] → fails failure))

/-! ### Twin reels and mending -/

/-- The heads of a linked pair are judged by number, then by length: equal numbers and lengths pair the frames and queue one
paired item; equal numbers of unequal length send both solo with reason LENGTH; else the lower number goes solo with reason
MISSING, the other head staying PENDING. A frame gone solo so has its UNPAIRED flag set and its FRAME_UNPAIRED finding handed
over. A head whose other side has none goes solo with reason MISSING when that side is DRAINING, a take of it in flight or not
(the model's reading, log entry 25); else it waits. Its ACTIVE lane enters TWIN_WAIT when everything before the head is
issued, and the other side, not DRAINING, has taken every frame it knows of and has no take in flight; a decision ends the
wait for ACTIVE. What bears on a linked pair decides what is due, and then judges both waits. A link lost with a lane sends
the other lane's pending and paired frames solo with reason LOST and no others, with a TWIN_LOST finding where a reason is
given. -/
def Obligations.TwinFramesPairOrGoSolo : Prop :=
  (∀ (s : State) (n : LaneId),
    let l := s.lane n
    let other := s.lane (twin n)
    let undecided := fun f : Frame => f.kind = .normal ∧ f.pairing = .pending
    let waits := s.linked n = true ∧ l.state = .active ∧ l.abort = none ∧ other.state ≠ .draining ∧
      other.taken = other.fillSeen ∧ (∀ r ∈ s.ctl, r.kind ≠ .descriptor (twin n)) ∧ (∀ g ∈ other.window, ¬ undecided g) ∧
      ∃ (before after : List Frame) (head : Frame), l.window = before ++ head :: after ∧ undecided head ∧
        ∀ g ∈ before, ¬ undecided g ∧ (g.kind = .normal → g.n ≤ g.cursor)
    (waits → s.enterWait n = s.enter n .starved .twinWait) ∧ (¬ waits → s.enterWait n = s) ∧
    (l.state = .starved → l.cause = .twinWait → s.leaveWait n = s.enter n .active .noCause) ∧
    (l.state ≠ .starved ∨ l.cause ≠ .twinWait → s.leaveWait n = s)) ∧
  (∀ (s : State) (p : PairId), (s.link p).linked = true →
    (s.decideNext p = none → s.reconcile p = ((s.prune p).enterWait (leader p)).enterWait (follower p)) ∧
    (∀ (n : LaneId) (f : Frame), n = leader p ∨ n = follower p → (s.lane n).pairingHead = some f →
      (s.lane (twin n)).pairingHead = none →
      ((s.lane (twin n)).state ≠ .draining → s.decideNext p = none) ∧
      ((s.lane (twin n)).state = .draining → s.frame? n f.pos = some f → ∃ t, s.decideNext p = some t ∧
        (t.frame? n f.pos).map (fun g => (g.pairing, g.unpaired)) = some (.solo .missing, true) ∧
        t.strip.waiting = s.strip.waiting ++ [⟨frameUnpairedFinding n f .missing, .lane n, s.now⟩] ∧
        (t.link p).queue = (s.link p).queue ++ [if n = leader p then .leaderSolo f.pos else .followerSolo f.pos] ∧
        (t.lane n).waits = false)) ∧
    ∀ a b : Frame, (s.lane (leader p)).pairingHead = some a → (s.lane (follower p)).pairingHead = some b →
      s.decideNext p = some (s.decideHeads p a b)) ∧
  (∀ (s : State) (p : PairId) (a b : Frame),
    s.frame? (leader p) a.pos = some a → s.frame? (follower p) b.pos = some b →
    let t := s.decideHeads p a b
    let status := fun (n : LaneId) (pos : Word) => (t.frame? n pos).map fun f => (f.pairing, f.unpaired)
    let reports := fun ws : List (LaneId × Frame × SoloReason) => t.strip.waiting = s.strip.waiting ++
      ws.map fun w => ⟨frameUnpairedFinding w.1 w.2.1 w.2.2, .lane w.1, s.now⟩
    (a.number = b.number → a.length = b.length → reports [] ∧
      status (leader p) a.pos = some (.paired b.pos, a.unpaired) ∧
      status (follower p) b.pos = some (.paired a.pos, b.unpaired) ∧
      (t.link p).queue = (s.link p).queue ++ [.both a.pos b.pos]) ∧
    (a.number = b.number → a.length ≠ b.length → reports [(leader p, a, .length), (follower p, b, .length)] ∧
      status (leader p) a.pos = some (.solo .length, true) ∧ status (follower p) b.pos = some (.solo .length, true) ∧
      (t.link p).queue = (s.link p).queue ++ [.leaderSolo a.pos, .followerSolo b.pos]) ∧
    (a.number.toNat < b.number.toNat → reports [(leader p, a, .missing)] ∧
      status (leader p) a.pos = some (.solo .missing, true) ∧
      status (follower p) b.pos = some (b.pairing, b.unpaired) ∧
      (t.link p).queue = (s.link p).queue ++ [.leaderSolo a.pos]) ∧
    (b.number.toNat < a.number.toNat → reports [(follower p, b, .missing)] ∧
      status (follower p) b.pos = some (.solo .missing, true) ∧
      status (leader p) a.pos = some (a.pairing, a.unpaired) ∧
      (t.link p).queue = (s.link p).queue ++ [.followerSolo b.pos])) ∧
  ∀ (s : State) (n : LaneId) (code : Option Nat), s.linked n = true →
    let t := s.linkLoss n code
    t.link (pairOf n) = ⟨false, []⟩ ∧ (∀ p, p ≠ pairOf n → t.link p = s.link p) ∧
    ((t.lane (twin n)).window.map fun f => (f.pos, f.pairing, f.unpaired)) =
      ((s.lane (twin n)).window.map fun f =>
        (f.pos, if f.isSolo then f.pairing else .solo .lost, f.unpaired)) ∧
    (∀ f ∈ (t.lane (twin n)).window, f.isSolo = true) ∧
    (∀ e ∈ t.board, e.lane = n ∨ e.lane = twin n → e.partner = none) ∧
    (∀ e ∈ t.board, e.lane = twin n → e.state = .held → e.outcome = none) ∧ (t.lane (twin n)).waits = false ∧
    ∀ k, code = some k → ⟨twinLostFinding (twin n) n k (s.lane (twin n)).drain (s.lane (twin n)).taken,
      .lane (twin n), s.now⟩ ∈ t.strip.waiting

/-- Both sides of a paired stripe are HELD. Computed values that differ, neither frame having a reference and either reel
CONFIRM, are read again first, both entries going to the heads of their lanes as CONFIRM reads. Else the vote settles each
side from its own outcome and the other's, removes both entries and places the mend requests it asks for, the leader's
first; when these need more places than are free, or stripes wait already, the stripe joins the vote wait list with the free
places reserved. A place that is handed on goes to the oldest stripe of the list, which votes once it has all it needs.
The unreadable side of a one-sided stripe settles with the readable one, from its own reference and the other side's outcome; if
it asks for a mend, the request takes a free place, and without one its lane hands a QUEUE_FULL finding over. -/
def Obligations.VoteSettlesBothSides : Prop :=
  (∀ (s : State) (p : PairId) (lp fp : Word) (i : Nat) (a b : Entry) (x y : SideOutcome) (f g : Frame),
    s.entry? (leader p) lp i = some a → s.entry? (follower p) fp i = some b →
    a.state = .held → a.outcome = some x → b.state = .held → b.outcome = some y →
    s.frame? (leader p) lp = some f → s.frame? (follower p) fp = some g →
    i < f.stripes.length → i < g.stripes.length →
    let t := s.tryVote p lp fp i
    let others := s.board.filter fun e => !e.isAt (leader p) lp i && !e.isAt (follower p) fp i
    let rereads := (∃ v w, x = .computed v ∧ y = .computed w ∧ v ≠ w) ∧ f.ref = .absent ∧ g.ref = .absent ∧
      ((s.lane (leader p)).settings.options.confirm = true ∨ (s.lane (follower p)).settings.options.confirm = true) ∧
      a.purpose ≠ .confirm ∧ b.purpose ≠ .confirm
    let asks := fun (n : LaneId) (h : Frame) (u v : SideOutcome) =>
      (s.lane n).settings.options.mend && judge (h.refValue i) u (some v) = .mendable && h.mendAddr ≠ 0
    let mends := (if asks (leader p) f x y
        then [mendRequest (s.lane (leader p)).settings.exponent (leader p) f i g] else []) ++
      if asks (follower p) g y x
        then [mendRequest (s.lane (follower p)).settings.exponent (follower p) g i f] else []
    let held := s.mender.queue.length + (s.votes.map VoteWait.got).sum
    let votesNow := mends = [] ∨ held + mends.length ≤ 8 ∧ s.votes = []
    (rereads → t = { s with board :=
      { b with purpose := .confirm, first := b.current, state := .queued, outcome := none } ::
        { a with purpose := .confirm, first := a.current, state := .queued, outcome := none } :: others }) ∧
    (¬ rereads → votesNow → t.board = others ∧ t.votes = s.votes ∧ t.mender.queue = s.mender.queue ++ mends ∧
      t.frame? (leader p) lp =
        some { f with stripes := f.stripes.modify i fun _ => settledStripe (f.refValue i) x (some y) } ∧
      t.frame? (follower p) fp =
        some { g with stripes := g.stripes.modify i fun _ => settledStripe (g.refValue i) y (some x) }) ∧
    (¬ rereads → ¬ votesNow → t = { s with votes := s.votes ++ [⟨p, lp, fp, i, mends.length, 8 - held⟩] })) ∧
  (∀ (s : State) (n : LaneId) (pos q : Word) (i : Nat) (x : SideOutcome) (f d : Frame) (y : Stripe),
    s.frame? n pos = some f → s.frame? (twin n) q = some d → d.stripes[i]? = some y →
    let before := (s.settleAt n pos i x none).removeEntry n pos i
    let t := s.settleSolo n pos i x
    let own := d.refValue i
    let asks := (s.lane (twin n)).settings.options.mend = true ∧ d.mendAddr ≠ 0 ∧ ∃ v, x = .computed v ∧ own = some v
    let held := s.mender.queue.length + (s.votes.map VoteWait.got).sum
    ((∀ r, f.pairing ≠ .paired r) → t = before) ∧
    (f.pairing = .paired q → d.kind ≠ .normal ∨ y.verdict ≠ .unsettled ∨ y.outcome ≠ some .unreadable → t = before) ∧
    (f.pairing = .paired q → d.kind = .normal → y.verdict = .unsettled → y.outcome = some .unreadable →
      t.board = before.board ∧ t.lane n = before.lane n ∧
      t.frame? (twin n) q = some { d with stripes := d.stripes.modify i fun _ => settledStripe own .unreadable (some x) } ∧
      (asks → held < 8 → t.strip = s.strip ∧ t.mender.queue = s.mender.queue ++
        [mendRequest (s.lane (twin n)).settings.exponent (twin n) d i f]) ∧
      (asks → 8 ≤ held → t.mender = s.mender ∧ t.strip = { s.strip with waiting := s.strip.waiting ++
        [⟨mendFailedFinding (twin n) q d.number i .queueFull n pos 0 0, .lane (twin n), s.now⟩] }) ∧
      (¬ asks → t.mender = s.mender ∧ t.strip = s.strip))) ∧
  ∀ s : State,
    (s.votes = [] → s.givePlace = s) ∧
    ∀ (v : VoteWait) (rest : List VoteWait), s.votes = v :: rest →
      let held := s.mender.queue.length + (s.votes.map VoteWait.got).sum
      (8 ≤ held → s.givePlace = s) ∧
      (held < 8 → v.got + 1 < v.need → s.givePlace = { s with votes := { v with got := v.got + 1 } :: rest }) ∧
      (held < 8 → v.need ≤ v.got + 1 →
        s.givePlace = State.carryVote { s with votes := rest } v.pair v.leaderPos v.followerPos v.stripe)

/-- The oldest mend request becomes active while the engine is IDLE and the part runs: attempt 1 with a fresh accumulator. A
failed donor read keeps the attempt until its other requests are done; then the whole copy is made once more, and a second
failure ends the request with a BUS_FAILED finding. A stopping engine ends its request when the last of its requests has
failed or been taken in. A request that ends leaves the queue and its place is handed on. A lane aborted from FAULTED that
waited for it enters CLOSED when nothing of its own is left. -/
def Obligations.MendStartsAndIsRetried : Prop :=
  ∀ (s : State) (q : MendReq) (rest : List MendReq), s.mender.queue = q :: rest →
    let fresh : Stream := {
      src := q.src, len := q.len, crc := 0xFFFFFFFF#32, next := 0, absorbed := 0, outstanding := [], kept := []
      failed := false }
    let base := { s with now := s.now + 1 }
    (s.mender.engine = .idle → s.running = true →
      (∀ w ∈ s.strip.waiting ++ s.strip.disposing.toList, w.submitter ≠ .mendEngine) →
      exec .mendStart s = .next { base with mender := ⟨q :: rest, .copying ⟨1, fresh, []⟩⟩ }) ∧
    (s.mender.engine ≠ .idle → exec .mendStart s = .next s) ∧
    ((∀ n a, (s.lane n).abort = some a → a.bare = false) →
      (∀ (c : Copy) (tag : Nat), s.mender.engine = .copying c → (∃ x ∈ c.stream.outstanding, x.tag = tag) →
        let others := c.stream.outstanding.filter fun x => x.tag ≠ tag
        (others ≠ [] → exec (.mendRequestFail tag) s = .next { base with
          mender := ⟨q :: rest, .copying ⟨c.attempt,
            { c.stream with failed := true, kept := [], outstanding := others }, []⟩⟩ }) ∧
        (others = [] → c.attempt = 1 → exec (.mendRequestFail tag) s = .next
          { base with mender := ⟨q :: rest, .copying ⟨2, fresh, []⟩⟩ }) ∧
        (others = [] → c.attempt ≠ 1 → exec (.mendRequestFail tag) s = .next (State.finish (State.givePlace { base with
          mender := ⟨rest, .idle⟩
          strip := { s.strip with waiting := s.strip.waiting ++
            [⟨mendFailedFinding q.lane q.pos (s.frameNumber q.lane q.pos) q.stripe .busFailed q.donorLane q.donorPos 0 0,
              .mendEngine, s.now + 1⟩] } })))) ∧
      ∀ (rs : List ReadReq) (tag : Nat), s.mender.engine = .stopping rs → (∃ x ∈ rs, x.tag = tag) →
        let others := rs.filter fun x => x.tag ≠ tag
        (others ≠ [] → exec (.mendRequestFail tag) s = .next { base with mender := ⟨q :: rest, .stopping others⟩ }) ∧
        (others = [] → exec (.mendRequestFail tag) s = .next
          (State.finish (State.givePlace { base with mender := ⟨rest, .idle⟩ })))) ∧
    ∀ (n : LaneId) (a : Abort) (x : ReadReq), s.mender.engine = .stopping [x] → (s.lane n).abort = some a →
      a.bare = true → (∀ m, m ≠ n → (s.lane m).abort = none) → s.votes = [] → (∀ e ∈ s.board, e.lane ≠ n) →
      (∀ r ∈ s.ctl, r.kind.ofReel n = false) → (∀ e ∈ s.evaluations, e.1 ≠ n) →
      (∀ r ∈ rest, r.donorLane ≠ n ∧ r.lane ≠ n) →
      ∃ t, exec (.mendRequestFail x.tag) s = .next t ∧ t.mender = ⟨rest, .idle⟩ ∧ (t.lane n).state = .closed ∧
        (t.lane n).cause = .aborted ∧ (t.lane n).abort = none ∧ (t.lane n).window = [] ∧
        s.out ++ [stateWrite s.regs n .closed .aborted] <+: t.out ∧ ackWrite s.regs n a.seq .done ∈ t.out

/-- The donor's bytes are copied into the mend buffer in order, none lost or added, in writes that each end on a 512-byte
boundary of the donor's addresses or at the end of the stripe; and the bytes kept back reach neither, so that a block is written
as soon as its last byte has been absorbed, before anything else happens. A copy whose value equals the reference then makes
the stripe MENDED; an unequal one leaves it as it is, with a MISMATCH finding of both values; either way the request leaves the
queue and its place is handed on. Data that does not match its request fails the attempt, as MendStartsAndIsRetried says of a
failed request, and no block of a failed attempt is written. A stopping engine throws the data away, counting it until its
requests are done; then its request ends. -/
def Obligations.MendCopiesTheDonor : Prop :=
  (∀ (q : MendReq) (s : State) (off : Nat) (block bytes : List Byte),
    let unfinished := fun (stop : Nat) (kept : List Byte) =>
      kept.length ≤ stop ∧ ∀ j, stop - kept.length < j → j ≤ stop → (q.src.toNat + j) % 512 ≠ 0 ∧ j ≠ q.len
    unfinished off block →
    let r := copyBytes q s off block bytes
    unfinished (off + bytes.length) r.2 ∧ ∃ ws : List (List Byte), ws.flatten ++ r.2 = block ++ bytes ∧
      (∀ k, k < ws.length →
        let stop := off - block.length + (ws.take (k + 1)).flatten.length
        (q.src.toNat + stop) % 512 = 0 ∨ stop = q.len) ∧
      let sent := ws.mapIdx fun k w =>
        Posted.write (Addr.plus q.dst (off - block.length + (ws.take k).flatten.length)) w
      r.1 = { s with out := s.out ++ sent }) ∧
  ∀ (s : State) (q : MendReq) (rest : List MendReq) (tag : Nat) (addr : Addr) (data : List Byte),
    s.mender.queue = q :: rest → (∀ n a, (s.lane n).abort = some a → a.bare = false) →
    let arrival := Instr.mendCompletion tag addr data
    let base := { s with now := s.now + 1 }
    let finding := fun (why : MendFailure) (copy ref : Word) => { s.strip with waiting := s.strip.waiting ++
      [⟨mendFailedFinding q.lane q.pos (s.frameNumber q.lane q.pos) q.stripe why q.donorLane q.donorPos copy ref,
        .mendEngine, s.now + 1⟩] }
    (∀ c : Copy, s.mender.engine = .copying c → (∃ x ∈ c.stream.outstanding, x.tag = tag) →
      let r := c.stream.receive tag addr data
      let w := copyBytes q base c.stream.absorbed c.block r.2
      let ended := { w.1 with mender := ⟨rest, .idle⟩ }
      (r.1.value? = none → r.1.failed = false → exec arrival s = .next
        { w.1 with mender := ⟨q :: rest, .copying ⟨c.attempt, r.1, w.2⟩⟩ }) ∧
      (∀ v, r.1.value? = some v → v ≠ q.ref → exec arrival s = .next
        (State.finish (State.givePlace { ended with strip := finding .mismatch v q.ref }))) ∧
      (r.1.value? = some q.ref → exec arrival s = .next (State.finish (State.givePlace
        (ended.setLane q.lane { s.lane q.lane with window := (s.lane q.lane).window.map fun f =>
          if f.pos = q.pos then { f with stripes := f.stripes.modify q.stripe fun x => { x with verdict := .mended } }
          else f })))) ∧
      (r.1.failed = true → r.1.outstanding ≠ [] → exec arrival s = .next
        { base with mender := ⟨q :: rest, .copying ⟨c.attempt, r.1, []⟩⟩ }) ∧
      (r.1.failed = true → r.1.outstanding = [] → c.attempt = 1 → exec arrival s = .next
        { base with mender := ⟨q :: rest, .copying ⟨2, Stream.start q.src q.len, []⟩⟩ }) ∧
      (r.1.failed = true → r.1.outstanding = [] → c.attempt ≠ 1 → exec arrival s = .next
        (State.finish (State.givePlace { base with mender := ⟨rest, .idle⟩, strip := finding .busFailed 0 0 })))) ∧
    ∀ (rs : List ReadReq) (x : ReadReq), s.mender.engine = .stopping rs → (rs.find? fun y => y.tag = tag) = some x →
      let off := (addr - q.src).toNat
      let matching := 0 < data.length ∧ x.off ≤ off ∧ off + data.length ≤ x.off + x.len
      ∀ left : List ReadReq,
        (matching → left = (rs.map fun y => if y.tag = tag then { y with got := y.got + data.length } else y).filter
          fun y => y.got < y.len) →
        (¬ matching → left = rs.filter fun y => y.tag ≠ tag) →
        (left ≠ [] → exec arrival s = .next { base with mender := ⟨q :: rest, .stopping left⟩ }) ∧
        (left = [] → exec arrival s = .next (State.finish (State.givePlace { base with mender := ⟨rest, .idle⟩ })))

/-! ### Closing frames -/

/-- A close issues its work in order: the record list where the frame qualifies, as the two posted writes of its header and of
its body (log entry 26), the verdict area, the run findings one by one, then the tally, then DRAIN. With no runs it all happens
at once, DRAIN advancing over the frame and the trip points being evaluated; with a run, the sequence stops at step 3 with its
first finding handed over and the frame fixed. A lane that may not close, or whose oldest frame is not ready, changes nothing. A
lane under an abort of R48 closes its frames too. A lane may not close while a finding that it handed over, or that the mend
engine handed over for the oldest frame, is undisposed, or evaluations of its last close are due (log entry 20). An expected or
computed value that is absent leaves its word of the record free (log entry 51). -/
def Obligations.CloseIssuesItsWorkInOrder : Prop :=
  ∀ (s : State) (n : LaneId) (f : Frame) (fs : List Frame), (s.lane n).window = f :: fs →
    let l := s.lane n
    let mayClose := ((l.state = .active ∨ l.state = .starved ∨ l.state = .paused ∨ l.state = .draining) ∨
        ∃ a, l.abort = some a ∧ a.bare = false) ∧
      l.closing = none ∧ l.ending = none ∧ l.faultDue = none ∧ s.running = true ∧ (∀ e ∈ s.evaluations, e.1 ≠ n) ∧
      ∀ w ∈ s.strip.waiting ++ s.strip.disposing.toList,
        w.submitter.block ≠ .lane n ∧
          ¬ (w.submitter = .mendEngine ∧ w.finding.lane = BitVec.ofNat 8 n.val ∧ w.finding.w0 = f.pos)
    let apart := (∀ e ∈ s.board, ¬ (e.lane = n ∧ e.pos = f.pos)) ∧
      ∀ q ∈ s.mender.queue, ¬ (q.donorLane = n ∧ q.donorPos = f.pos ∨ q.lane = n ∧ q.pos = f.pos)
    let isReady := f.kind = .malformed ∨
      f.kind = .normal ∧ (∀ x ∈ f.stripes, x.verdict ≠ .unsettled) ∧ apart ∨
      f.kind = .withdrawn ∧ apart ∧ ∀ r ∈ s.ctl, CtlKind.isRefOf n f.pos r.kind = false
    let wants := l.settings.options.record = true ∧ f.recordAddr ≠ 0 ∧ f.kind = .normal
    let full := ∀ x ∈ f.stripes, x.computed ≠ none
    ∀ (g : Frame) (record : List Posted),
      (wants → full → g = { f with recordSkipped := false } ∧ record =
        [.write f.recordAddr (leBytes 4 l.settings.exponent ++ leBytes 4 f.n ++ leBytes 4 f.length ++ leBytes 4 0),
          .write (Addr.plus f.recordAddr 16) (f.stripes.flatMap fun x => wordBytes (x.computed.getD 0))]) →
      (wants → ¬ full → g = { f with recordSkipped := true } ∧ record = []) →
      (¬ wants → g = { f with recordSkipped := false } ∧ record = []) →
      let area := Posted.write (Addr.plus (slotAddr l.settings f.pos) 0x60) g.verdictArea
      ((¬ mayClose ∨ ¬ isReady) → exec (.closeBegin n) s = .next s) ∧
      (mayClose → isReady → g.runs = [] → (∀ h ∈ fs, h.pos ≠ f.pos) → exec (.closeBegin n) s = .next (State.finish
        (State.tripsAfterClose { s.setLane n { l with
            tally := l.tally.closed l.settings g
            drain := l.drain + 1
            window := fs
            closing := none } with
          now := s.now + 1
          out := s.out ++ record ++
            [area, tallyWrite l.sheet (l.tally.closed l.settings g), drainWrite l.sheet (l.drain + 1)] } n))) ∧
      (mayClose → isReady → g.runs = [] → (∀ a, l.abort = some a → a.bare = false) → ∃ t, exec (.closeBegin n) s = .next t ∧
        s.out ++ record ++ [area, tallyWrite l.sheet (l.tally.closed l.settings g), drainWrite l.sheet (l.drain + 1)]
          <+: t.out ∧
        (t.lane n).drain = l.drain + 1 ∧ (t.lane n).window.map Frame.pos = fs.map Frame.pos ∧
        (t.lane n).closing = none ∧ (t.lane n).taken = l.taken ∧
        (t.lane n).tally.framesClosed = min (l.tally.framesClosed + 1) 4294967295) ∧
      (mayClose → isReady → (∀ h ∈ fs, h.pos ≠ f.pos) →
        ∀ (x : Run) (xs : List Run), g.runs = x :: xs →
        exec (.closeBegin n) s = .next
          { s.setLane n { l with window := g :: fs, closing := some (xs.map (stripeRunFinding (s.now + 1) n g)) } with
            now := s.now + 1
            out := s.out ++ record ++ [area]
            strip := { s.strip with waiting := s.strip.waiting ++
              [⟨stripeRunFinding (s.now + 1) n g x, .closeRun n, s.now + 1⟩] } })

/-- The runs of a verdict list stand in ascending order and within it; each is a stretch of stripes of one verdict, and one
transit reason, that no neighbouring stripe continues; and every stripe that is neither CLEAN nor CONSISTENT lies in exactly
one run, the others in none. -/
def Obligations.RunsCoverTheVerdicts : Prop :=
  ∀ stripes : List Stripe,
    let rs := runsFrom 0 none stripes
    let alike := fun (i j : Nat) => (stripes[i]?.map fun x => (x.verdict, x.reason)) =
      stripes[j]?.map fun x => (x.verdict, x.reason)
    (rs.Pairwise fun a b => a.first + a.count ≤ b.first) ∧
    (∀ r ∈ rs, 1 ≤ r.count ∧ r.first + r.count ≤ stripes.length ∧ stripes[r.first]? = some r.stripe ∧
      (∀ i, r.first ≤ i → i < r.first + r.count → alike i r.first) ∧
      (r.first + r.count < stripes.length → ¬ alike (r.first + r.count) r.first) ∧
      (0 < r.first → ¬ alike (r.first - 1) r.first)) ∧
    ∀ (i : Nat) (x : Stripe), stripes[i]? = some x →
      (x.verdict ≠ .clean → x.verdict ≠ .consistent →
        ∃ r ∈ rs, (r.first ≤ i ∧ i < r.first + r.count) ∧
          ∀ q ∈ rs, q.first ≤ i → i < q.first + q.count → q = r) ∧
      (x.verdict = .clean ∨ x.verdict = .consistent → ∀ r ∈ rs, ¬ (r.first ≤ i ∧ i < r.first + r.count))

/-- The verdict of a side is the one row of the table that holds, from the reference, this side and the twin, of which only a
computed value is evidence. -/
def Obligations.VerdictFollowsTheTable : Prop :=
  ∀ (r : Option Word) (x : SideOutcome) (y : Option SideOutcome),
    let usableIs := fun w : Word => y = some (.computed w)
    let noUsable := ∀ w : Word, y ≠ some (.computed w)
    ((∃ why, x = .transit why) → judge r x y = .transit) ∧
    (∀ a, r = some a →
      (x = .computed a → judge r x y = .clean) ∧
      ((∃ v, x = .computed v ∧ v ≠ a) ∨ x = .unreadable → usableIs a → judge r x y = .mendable) ∧
      (∀ v, x = .computed v → v ≠ a → usableIs v → judge r x y = .suspect) ∧
      (∀ v, x = .computed v → v ≠ a → noUsable ∨ (∃ w, usableIs w ∧ w ≠ a ∧ w ≠ v) → judge r x y = .damaged) ∧
      (x = .unreadable → noUsable ∨ (∃ w, usableIs w ∧ w ≠ a) → judge r x y = .unreadable)) ∧
    (r = none →
      (x = .unreadable → judge r x y = .unreadable) ∧
      (∀ v, x = .computed v → usableIs v → judge r x y = .consistent) ∧
      (∀ v w, x = .computed v → usableIs w → w ≠ v → judge r x y = .divergent) ∧
      (∀ v, x = .computed v → noUsable → judge r x y = .unverified))

/-- The ten counts of a settled normal frame sum to its number of stripes, its verdict code is the highest rank among them,
and every count of a WITHDRAWN or MALFORMED frame is 0. A close moves FRAMES_CLOSED up by one, and of a normal frame
DAMAGE_COUNT by its damaged stripes, TRANSIT_COUNT by its TRANSIT and SUSPECT_COUNT by its SUSPECT ones, each saturating; a
WITHDRAWN or MALFORMED frame moves FRAMES_CLOSED alone. At its close the score moves by one A-th of the way to the damage
density, rounded toward the old score, or takes it when the difference exceeds a WINDOW that is not 0; a frame all of whose
stripes are TRANSIT leaves it; and the reported score is 0 below QUIET. -/
def Obligations.CountsAndScoresFollowTheVerdicts : Prop :=
  (∀ f : Frame, (∀ x ∈ f.stripes, x.verdict ≠ .unsettled) → f.kind = .normal →
    f.counts.sum = f.stripes.length ∧ f.counts.length = 10 ∧ (∀ x ∈ f.stripes, x.verdict.rank ≤ f.verdictCode) ∧
      (f.stripes ≠ [] → ∃ x ∈ f.stripes, x.verdict.rank = f.verdictCode)) ∧
  (∀ f : Frame, f.kind ≠ .normal → (∀ k ∈ f.counts, k = 0) ∧
    f.verdictCode = if f.kind = .withdrawn then 10 else 11) ∧
  (∀ (t : Tally) (c : Settings) (f : Frame),
    let u := t.closed c f
    let count := fun p : Verdict → Bool => f.stripes.countP fun x => p x.verdict
    let up := fun old k : Nat => min (old + k) 4294967295
    u.framesClosed = up t.framesClosed 1 ∧ u.longestStarve = t.longestStarve ∧ u.closeCause = t.closeCause ∧
    (f.kind = .normal →
      u.damage = up t.damage (count (· = .damaged) + count (· = .mendable) + count (· = .mended) +
        count (· = .unreadable) + count (· = .divergent)) ∧
      u.transit = up t.transit (count (· = .transit)) ∧ u.suspect = up t.suspect (count (· = .suspect)) ∧
      u.scoreS = (t.scored c f.stripes).scoreS ∧ u.scoreR = (t.scored c f.stripes).scoreR) ∧
    (f.kind ≠ .normal → u = { t with framesClosed := up t.framesClosed 1 })) ∧
  ∀ (t : Tally) (c : Settings) (stripes : List Stripe), c.InRange → t.scoreS ≤ 1000000 → 1 ≤ c.avgSamples →
    let bad := stripes.countP fun x => x.verdict = .damaged || x.verdict = .mendable || x.verdict = .mended ||
      x.verdict = .unreadable || x.verdict = .divergent
    let checked := stripes.countP fun x => x.verdict ≠ .transit
    let d : Int := (bad * 1000000 / checked : Nat)
    let old : Int := t.scoreS
    let u := t.scored c stripes
    (checked = 0 → u = t) ∧
    (0 < checked →
      (c.window ≠ 0 → c.window < (d - old).natAbs → (u.scoreS : Int) = d) ∧
      (c.window = 0 ∨ (d - old).natAbs ≤ c.window → (u.scoreS : Int) = old + (d - old).tdiv c.avgSamples) ∧
      (u.scoreS < c.quiet → u.scoreR = 0) ∧ (c.quiet ≤ u.scoreS → u.scoreR = u.scoreS) ∧ u.scoreS ≤ 1000000 ∧
      u = { t with scoreS := u.scoreS, scoreR := u.scoreR })

/-- An enabled trip point of the lane, ARMED, trips when its statistic has risen by its threshold since its baseline: the
TRIP finding waits, and the TRIP cause follows when it has been disposed of, placed or dropped; NOTIFY and PAUSE leave it
TRIPPED, PAUSE moving a running lane to PAUSED, and STEP takes the value as its new baseline. TRIPPED, it re-arms when the rise
has fallen below the threshold less the hysteresis. After a close the four trip points follow in ascending number, each once,
those that are enabled and watch the lane being evaluated, a staged copy being taken first; after the last, what waited for the
close goes on. While the TRIP finding of one waits, the next ones wait with the health unit (log entry 20). A copy is taken
with the treatment of its settings, ARMED with baseline 0, at a close or an OPEN of its lane or of the active one's, or at the
end of the reload when neither names a lane, a source above 31 clamping no threshold (log entry 31); an OPEN re-arms the trip
points of its lane. -/
def Obligations.TripPointsTripAndReArm : Prop :=
  (∀ (s : State) (n : LaneId) (i : TripId),
    let x := s.trip i
    let l := s.lane n
    let v := match x.source % 4 with
      | 0 => l.tally.scoreR
      | 1 => l.tally.damage
      | 2 => l.tally.transit
      | _ => l.tally.suspect
    let t := s.evaluate n i
    (x.tripped = true → v - x.baseline < x.threshold - x.hysteresis →
      t = s.setTrip i { x with tripped := false }) ∧
    (x.tripped = true → x.threshold - x.hysteresis ≤ v - x.baseline → t = s) ∧
    (x.tripped = false → v - x.baseline < x.threshold → t = s) ∧
    (x.tripped = false → x.threshold ≤ v - x.baseline →
      t.strip = { s.strip with waiting := s.strip.waiting ++ [⟨⟨8, BitVec.ofNat 8 n.val, BitVec.ofNat 8 x.action.code,
        BitVec.ofNat 8 i.val, natWord x.source, natWord v, natWord x.baseline, natWord x.threshold, l.drain, 0⟩,
        .health, s.now⟩] } ∧
      t.regs = s.regs ∧
      (x.action = .step → t.trip i = { x with baseline := v } ∧ t.lanes = s.lanes ∧ t.out = s.out) ∧
      (x.action = .notify → t.trip i = { x with tripped := true } ∧ t.lanes = s.lanes ∧ t.out = s.out) ∧
      (x.action = .pause → t.trip i = { x with tripped := true } ∧
        (l.state = .active ∨ l.state = .starved → l.abort = none → (t.lane n).state = .paused) ∧
        (¬ (l.state = .active ∨ l.state = .starved) ∨ l.abort ≠ none → (t.lane n).state = l.state)))) ∧
  (∀ r : TripRaw,
    let inRange := if r.source < 32 ∧ r.source % 4 = 0 then min r.threshold 1000000 else r.threshold
    let threshold := if r.action = 2 ∧ inRange = 0 then 1 else inRange
    r.taken = {
      enable := r.enable, source := r.source, threshold := threshold, hysteresis := min r.hysteresis threshold
      action := if r.action = 1 then .pause else if r.action = 2 then .step else .notify
      tripped := false, baseline := 0, staged := none }) ∧
  (∀ (x : TripPoint) (n : LaneId),
    let names := fun source : Nat => source / 4 = n.val
    (x.staged = none → x.atClose n = x ∧ x.atReload = x ∧
      (names x.source → x.atOpen n = { x with baseline := 0, tripped := false }) ∧ (¬ names x.source → x.atOpen n = x)) ∧
    ∀ r : TripRaw, x.staged = some r →
      ((x.enable = true ∧ names x.source) ∨ names r.source → x.atClose n = r.taken) ∧
      (¬ ((x.enable = true ∧ names x.source) ∨ names r.source) → x.atClose n = x) ∧
      (names x.source ∨ names r.source → x.atOpen n = r.taken) ∧ (¬ (names x.source ∨ names r.source) → x.atOpen n = x) ∧
      (32 ≤ x.source → 32 ≤ r.source → x.atReload = r.taken) ∧ (x.source < 32 ∨ r.source < 32 → x.atReload = x)) ∧
  ∀ (s : State) (n : LaneId),
    let reports := ∃ w ∈ s.strip.waiting ++ s.strip.disposing.toList, w.submitter = .health
    (s.resumeSubmitter .health = (s.raise .trip).healthGoesOn) ∧
    (s.tripsAfterClose n =
      State.healthGoesOn { s with evaluations := s.evaluations ++ [(n, 0), (n, 1), (n, 2), (n, 3)] }) ∧
    (s.evaluations = [] ∨ reports → s.healthGoesOn = s) ∧
    (∀ (i : TripId) (rest : List (LaneId × TripId)), s.evaluations = (n, i) :: rest → ¬ reports →
      let base := { s with evaluations := rest }
      let x := (s.trip i).atClose n
      let u := if x.enable = true ∧ x.source / 4 = n.val then (base.setTrip i x).evaluate n i else base.setTrip i x
      ((∃ e ∈ rest, e.1 = n) → s.healthGoesOn = u.healthGoesOn) ∧
      ((∀ e ∈ rest, e.1 ≠ n) → s.healthGoesOn = (u.closeFollows n).healthGoesOn)) ∧
    (∀ c : Cause, (s.lane n).faultDue = some c → s.closeFollows n = s.faultNow n c) ∧
    ((s.lane n).faultDue = none → s.closeFollows n = ((s.fillCause n).reconcile (pairOf n)).laneEnd n)

/-! ### Findings -/

/-- The findings unit takes one waiting finding at a time, of those that began to wait first. With room and no overrun it
places it: the 32-byte record at its slot, then the new STRIP_WRITTEN, then FINDINGS; then its submitter goes on. With the
cached room 0, or in an overrun, it reads STRIP_READ first. While a finding is being disposed of, or with none waiting, nothing
changes; and neither before READY, which is the model's choice (log entry 16). When a finding began to wait, where its block
has handed over another before it, is the model's choice too (log entry 47). -/
def Obligations.FindingIsPlacedOrReadFor : Prop :=
  ∀ (s : State) (pick : Nat),
    let u := s.strip
    (u.disposing ≠ none ∨ s.regs.ready = false ∨ u.waiting = [] → exec (.findingDispose pick) s = .next s) ∧
    (∀ w : Waiting, u.disposing = none → s.regs.ready = true → u.next pick = some w →
      w ∈ u.waiting ∧ (∀ h, u.waiting.head? = some h → w.since = h.since) ∧
      (u.overrun = true ∨ u.room = 0 → exec (.findingDispose pick) s = .next { s with
        now := s.now + 1
        nextTag := s.nextTag + 1
        ctl := s.ctl ++ [s.newRead 0 .stripRead (Addr.plus s.regs.dirBase 0x14) 4 1]
        strip := { u with waiting := u.waiting.erase w, disposing := some w } }) ∧
      (u.overrun = false → 1 ≤ u.room →
        exec (.findingDispose pick) s = .next (State.finish (State.resumeSubmitter (State.raise { s with
          now := s.now + 1
          strip := { u with waiting := u.waiting.erase w, written := u.written + 1, room := u.room - 1 }
          out := s.out ++ [.write (Addr.plus s.dir.stripBase (u.written.toNat % s.dir.stripCapacity * 32))
              (w.finding.bytes u.written),
            .write (Addr.plus s.regs.dirBase 0x10) (wordBytes (u.written + 1))] } .findings) w.submitter)))) ∧
    (u.disposing = none → s.regs.ready = true → u.waiting ≠ [] → u.next pick ≠ none)

/-- The submitter goes on when its finding has been disposed of, placed or dropped, as FindingIsPlacedOrReadFor and
StripReadIsJudged say. A close hands over its next run finding, or writes the tally and then DRAIN, and the trip points
follow. The end of a reel enters CLOSED with its state write, then the acknowledgement of an abort, then LANE; a linked lane's
link is lost, with no TWIN_LOST finding. An entry to FAULTED raises LANE. The health unit raises TRIP and makes the
evaluations that waited. The mend engine's next request may start. A lane ends its reel where that waited (log entry 20): a
DRAINING lane with an empty window and no take in flight, or an aborting one with no FILL read in flight either, writes its
tally and hands REEL_CLOSED over; a lane aborted from FAULTED, when nothing of its own is left, enters CLOSED. That a FILL
read in flight at the CLOSED write is marked for discard (log entry 19), that the finding of an end that an ABORT or a fault
has overtaken does nothing more (log entry 21), and that the CLOSED write stands before the survivor's state write (log entry
33), is the model's reading too. -/
def Obligations.SubmitterGoesOn : Prop :=
  ∀ (u : State) (n : LaneId),
    let l := u.lane n
    let goesOn := fun by_ : Submitter => u.resumeSubmitter by_
    (l.closing = none → goesOn (.closeRun n) = u) ∧
    (∀ (f : Finding) (fs : List Finding), l.closing = some (f :: fs) → goesOn (.closeRun n) =
      { u.setLane n { l with closing := some fs } with
        strip := { u.strip with waiting := u.strip.waiting ++ [⟨f, .closeRun n, u.now⟩] } }) ∧
    (∀ (g : Frame) (gs : List Frame), l.closing = some [] → l.window = g :: gs → goesOn (.closeRun n) =
      State.tripsAfterClose { u.setLane n { l with
          tally := l.tally.closed l.settings g, drain := l.drain + 1, window := gs, closing := none } with
        out := u.out ++ [tallyWrite l.sheet (l.tally.closed l.settings g), drainWrite l.sheet (l.drain + 1)] } n) ∧
    (∀ c : Cause, l.ending = some c →
      let t := goesOn (.reelEnd n c)
      let r := { u.regs with attention := u.regs.attention ||| 0x04#6 }
      (t.lane n).state = .closed ∧ (t.lane n).cause = c ∧ (t.lane n).abort = none ∧ (t.lane n).ending = none ∧
      (t.lane n).withdraws = [] ∧ (t.lane n).pacing.permit = false ∧ t.regs = r ∧ t.strip = u.strip ∧
      (∀ q ∈ t.ctl, q.kind = .fill n → q.discard = true) ∧
      t.out = u.out ++ [stateWrite u.regs n .closed c] ++
        (if u.linked n = true ∧ (u.lane (twin n)).state = .starved ∧ (u.lane (twin n)).cause = .twinWait
          then [stateWrite u.regs (twin n) .active .noCause] else []) ++
        (l.abort.map fun a => ackWrite u.regs n a.seq .done).toList ++ u.messages r ∧
      (u.linked n = true → t.linked n = false ∧
        ∀ f ∈ (t.lane (twin n)).window, f.pairing ≠ .pending ∧ ∀ q, f.pairing ≠ .paired q)) ∧
    (∀ c : Cause, l.ending ≠ some c → goesOn (.reelEnd n c) = u.laneEnd n) ∧
    goesOn (.fault n) = (u.raise .lane).laneEnd n ∧ goesOn (.lane n) = u.laneEnd n ∧
    goesOn .health = (u.raise .trip).healthGoesOn ∧ goesOn .mendEngine = u ∧
    let due := l.window = [] ∧ l.closing = none ∧ l.ending = none ∧ u.running = true ∧
      (∀ r ∈ u.ctl, r.kind ≠ .descriptor n) ∧ (∀ e ∈ u.evaluations, e.1 ≠ n) ∧
      ∀ w ∈ u.strip.waiting ++ u.strip.disposing.toList, w.submitter.block ≠ .lane n
    let drained := l.state = .draining ∧ l.abort = none ∧ due
    let aborted := (∃ a, l.abort = some a ∧ a.bare = false) ∧ due ∧ ∀ r ∈ u.ctl, r.kind ≠ .fill n
    let bare := (∃ a, l.abort = some a ∧ a.bare = true) ∧ (∀ e ∈ u.board, e.lane ≠ n) ∧
      (∀ q ∈ u.mender.queue, q.donorLane ≠ n ∧ q.lane ≠ n) ∧ (∀ r ∈ u.ctl, r.kind.ofReel n = false) ∧
      ∀ e ∈ u.evaluations, e.1 ≠ n
    let ended := fun c : Cause => { u.setLane n { l with ending := some c, tally := { l.tally with closeCause := c } } with
      out := u.out ++ [tallyWrite l.sheet { l.tally with closeCause := c }]
      strip := { u.strip with waiting := u.strip.waiting ++
        [⟨reelClosedFinding n c l.drain l.tally.framesClosed, .reelEnd n c, u.now⟩] } }
    (drained → u.laneEnd n = ended .closedByCommand) ∧ (aborted → u.laneEnd n = ended .aborted) ∧
    (bare → ((u.laneEnd n).lane n).state = .closed ∧ ((u.laneEnd n).lane n).cause = .aborted ∧
      ((u.laneEnd n).lane n).abort = none ∧ (u.laneEnd n).regs.attention = u.regs.attention ||| 0x04#6) ∧
    (¬ drained → ¬ aborted → ¬ bare → u.laneEnd n = u)

/-- The STRIP_READ value is accepted when STRIP_WRITTEN lies from 0 to C ahead of it: the room is what remains of C. Any other
value, and a second failure of the read, leaves the last read value, makes the room 0 and raises DIRECTORY_FAULT. The finding
that waited is then placed, after the OVERRUN record when drops had occurred, or dropped, the first drop writing
STRIP_OVERRUN = 1; an OVERRUN record that takes the last place leaves the finding to be dropped as the first of a new overrun.
Then its submitter goes on. -/
def Obligations.StripReadIsJudged : Prop :=
  ∀ (s : State) (r : CtlRead) (w : Waiting) (v : Word), s.sentRead r.tag = some r → r.kind = .stripRead →
    s.strip.disposing = some w →
    let u := s.strip
    let behind := (u.written - v).toNat
    let slot := fun k : Word => Addr.plus s.dir.stripBase (k.toNat % s.dir.stripCapacity * 32)
    let written := fun k : Word => Posted.write (Addr.plus s.regs.dirBase 0x10) (wordBytes k)
    let overrun := fun k : Nat => Posted.write (Addr.plus s.regs.dirBase 0x18) (leBytes 4 k)
    let base := { s with now := s.now + 1, ctl := s.otherReads r.tag }
    let dropped := { u with
      disposing := none, room := 0, drops := min (u.drops + 1) 4294967295, overrun := true }
    let first := if u.overrun then [] else [overrun 1]
    let room := s.dir.stripCapacity - behind
    let after := State.raise { base with
      strip := { u with
        disposing := none, lastRead := v, written := u.written + 1, room := room - 1, drops := 0, overrun := false }
      out := s.out ++ [.write (slot u.written) ((overrunFinding u.drops).bytes u.written), written (u.written + 1),
        overrun 0] } .findings
    let refused := State.raise base .directoryFault
    let arrival := Instr.stripReadComplete r.tag v
    let ends := fun (c : Instr) (t : State) => exec c s = .next (State.finish (t.resumeSubmitter w.submitter))
    (behind < s.dir.stripCapacity → u.overrun = false → ends arrival (State.raise { base with
        strip := { u with disposing := none, lastRead := v, written := u.written + 1, room := room - 1 }
        out := s.out ++ [.write (slot u.written) (w.finding.bytes u.written), written (u.written + 1)] } .findings)) ∧
    (behind + 1 < s.dir.stripCapacity → u.overrun = true → ends arrival (State.raise { after with
        strip := { after.strip with written := u.written + 2, room := room - 2 }
        out := after.out ++ [.write (slot (u.written + 1)) (w.finding.bytes (u.written + 1)),
          written (u.written + 2)] } .findings)) ∧
    (behind + 1 = s.dir.stripCapacity → u.overrun = true → ends arrival { after with
        strip := { after.strip with drops := 1, overrun := true }
        out := after.out ++ [overrun 1] }) ∧
    (behind = s.dir.stripCapacity → ends arrival { base with
        strip := { dropped with lastRead := v }
        out := s.out ++ first }) ∧
    (s.dir.stripCapacity < behind → ends arrival { refused with strip := dropped, out := refused.out ++ first }) ∧
    (r.attempt ≠ 1 → ends (.stripReadFail r.tag) { refused with strip := dropped, out := refused.out ++ first })
end

