-- ==== Sys2Proof/Laws/State.lean ====
section
/-! SUPPORT. One lemma per field per update of the state, all true by definition, so that no proof unfolds a record
update; and what a lane, a link, a context or a trip point reads after one was replaced. -/

namespace Sys2Proof.Machine

variable (s : State)

/-! #### `State.setLane` -/
@[simp] theorem State.setLane_pending (n : LaneId) (l : Lane) : (s.setLane n l).pending = s.pending := rfl
@[simp] theorem State.setLane_clock (n : LaneId) (l : Lane) : (s.setLane n l).clock = s.clock := rfl
@[simp] theorem State.setLane_now (n : LaneId) (l : Lane) : (s.setLane n l).now = s.now := rfl
@[simp] theorem State.setLane_nextTag (n : LaneId) (l : Lane) : (s.setLane n l).nextTag = s.nextTag := rfl
@[simp] theorem State.setLane_regs (n : LaneId) (l : Lane) : (s.setLane n l).regs = s.regs := rfl
@[simp] theorem State.setLane_msi (n : LaneId) (l : Lane) : (s.setLane n l).msi = s.msi := rfl
@[simp] theorem State.setLane_out (n : LaneId) (l : Lane) : (s.setLane n l).out = s.out := rfl
@[simp] theorem State.setLane_dir (n : LaneId) (l : Lane) : (s.setLane n l).dir = s.dir := rfl
@[simp] theorem State.setLane_strip (n : LaneId) (l : Lane) : (s.setLane n l).strip = s.strip := rfl
@[simp] theorem State.setLane_ctl (n : LaneId) (l : Lane) : (s.setLane n l).ctl = s.ctl := rfl
@[simp] theorem State.setLane_arbiter (n : LaneId) (l : Lane) : (s.setLane n l).arbiter = s.arbiter := rfl
@[simp] theorem State.setLane_ctxs (n : LaneId) (l : Lane) : (s.setLane n l).ctxs = s.ctxs := rfl
@[simp] theorem State.setLane_board (n : LaneId) (l : Lane) : (s.setLane n l).board = s.board := rfl
@[simp] theorem State.setLane_lanes (n : LaneId) (l : Lane) :
    (s.setLane n l).lanes = s.lanes.set n.val l n.isLt := rfl
@[simp] theorem State.setLane_links (n : LaneId) (l : Lane) : (s.setLane n l).links = s.links := rfl
@[simp] theorem State.setLane_votes (n : LaneId) (l : Lane) : (s.setLane n l).votes = s.votes := rfl
@[simp] theorem State.setLane_mender (n : LaneId) (l : Lane) : (s.setLane n l).mender = s.mender := rfl
@[simp] theorem State.setLane_trips (n : LaneId) (l : Lane) : (s.setLane n l).trips = s.trips := rfl
@[simp] theorem State.setLane_evaluations (n : LaneId) (l : Lane) : (s.setLane n l).evaluations = s.evaluations := rfl

/-! #### `State.updLane` -/
@[simp] theorem State.updLane_pending (n : LaneId) (f : Lane → Lane) : (s.updLane n f).pending = s.pending := rfl
@[simp] theorem State.updLane_clock (n : LaneId) (f : Lane → Lane) : (s.updLane n f).clock = s.clock := rfl
@[simp] theorem State.updLane_now (n : LaneId) (f : Lane → Lane) : (s.updLane n f).now = s.now := rfl
@[simp] theorem State.updLane_nextTag (n : LaneId) (f : Lane → Lane) : (s.updLane n f).nextTag = s.nextTag := rfl
@[simp] theorem State.updLane_regs (n : LaneId) (f : Lane → Lane) : (s.updLane n f).regs = s.regs := rfl
@[simp] theorem State.updLane_msi (n : LaneId) (f : Lane → Lane) : (s.updLane n f).msi = s.msi := rfl
@[simp] theorem State.updLane_out (n : LaneId) (f : Lane → Lane) : (s.updLane n f).out = s.out := rfl
@[simp] theorem State.updLane_dir (n : LaneId) (f : Lane → Lane) : (s.updLane n f).dir = s.dir := rfl
@[simp] theorem State.updLane_strip (n : LaneId) (f : Lane → Lane) : (s.updLane n f).strip = s.strip := rfl
@[simp] theorem State.updLane_ctl (n : LaneId) (f : Lane → Lane) : (s.updLane n f).ctl = s.ctl := rfl
@[simp] theorem State.updLane_arbiter (n : LaneId) (f : Lane → Lane) : (s.updLane n f).arbiter = s.arbiter := rfl
@[simp] theorem State.updLane_ctxs (n : LaneId) (f : Lane → Lane) : (s.updLane n f).ctxs = s.ctxs := rfl
@[simp] theorem State.updLane_board (n : LaneId) (f : Lane → Lane) : (s.updLane n f).board = s.board := rfl
@[simp] theorem State.updLane_lanes (n : LaneId) (f : Lane → Lane) :
    (s.updLane n f).lanes = s.lanes.set n.val (f (s.lane n)) n.isLt := rfl
@[simp] theorem State.updLane_links (n : LaneId) (f : Lane → Lane) : (s.updLane n f).links = s.links := rfl
@[simp] theorem State.updLane_votes (n : LaneId) (f : Lane → Lane) : (s.updLane n f).votes = s.votes := rfl
@[simp] theorem State.updLane_mender (n : LaneId) (f : Lane → Lane) : (s.updLane n f).mender = s.mender := rfl
@[simp] theorem State.updLane_trips (n : LaneId) (f : Lane → Lane) : (s.updLane n f).trips = s.trips := rfl
@[simp] theorem State.updLane_evaluations (n : LaneId) (f : Lane → Lane) : (s.updLane n f).evaluations = s.evaluations := rfl

/-! #### `State.setLink` -/
@[simp] theorem State.setLink_pending (p : PairId) (l : Link) : (s.setLink p l).pending = s.pending := rfl
@[simp] theorem State.setLink_clock (p : PairId) (l : Link) : (s.setLink p l).clock = s.clock := rfl
@[simp] theorem State.setLink_now (p : PairId) (l : Link) : (s.setLink p l).now = s.now := rfl
@[simp] theorem State.setLink_nextTag (p : PairId) (l : Link) : (s.setLink p l).nextTag = s.nextTag := rfl
@[simp] theorem State.setLink_regs (p : PairId) (l : Link) : (s.setLink p l).regs = s.regs := rfl
@[simp] theorem State.setLink_msi (p : PairId) (l : Link) : (s.setLink p l).msi = s.msi := rfl
@[simp] theorem State.setLink_out (p : PairId) (l : Link) : (s.setLink p l).out = s.out := rfl
@[simp] theorem State.setLink_dir (p : PairId) (l : Link) : (s.setLink p l).dir = s.dir := rfl
@[simp] theorem State.setLink_strip (p : PairId) (l : Link) : (s.setLink p l).strip = s.strip := rfl
@[simp] theorem State.setLink_ctl (p : PairId) (l : Link) : (s.setLink p l).ctl = s.ctl := rfl
@[simp] theorem State.setLink_arbiter (p : PairId) (l : Link) : (s.setLink p l).arbiter = s.arbiter := rfl
@[simp] theorem State.setLink_ctxs (p : PairId) (l : Link) : (s.setLink p l).ctxs = s.ctxs := rfl
@[simp] theorem State.setLink_board (p : PairId) (l : Link) : (s.setLink p l).board = s.board := rfl
@[simp] theorem State.setLink_lanes (p : PairId) (l : Link) : (s.setLink p l).lanes = s.lanes := rfl
@[simp] theorem State.setLink_links (p : PairId) (l : Link) :
    (s.setLink p l).links = s.links.set p.val l p.isLt := rfl
@[simp] theorem State.setLink_votes (p : PairId) (l : Link) : (s.setLink p l).votes = s.votes := rfl
@[simp] theorem State.setLink_mender (p : PairId) (l : Link) : (s.setLink p l).mender = s.mender := rfl
@[simp] theorem State.setLink_trips (p : PairId) (l : Link) : (s.setLink p l).trips = s.trips := rfl
@[simp] theorem State.setLink_evaluations (p : PairId) (l : Link) : (s.setLink p l).evaluations = s.evaluations := rfl

/-! #### `State.setCtx` -/
@[simp] theorem State.setCtx_pending (c : CtxId) (f : Option Fetch) : (s.setCtx c f).pending = s.pending := rfl
@[simp] theorem State.setCtx_clock (c : CtxId) (f : Option Fetch) : (s.setCtx c f).clock = s.clock := rfl
@[simp] theorem State.setCtx_now (c : CtxId) (f : Option Fetch) : (s.setCtx c f).now = s.now := rfl
@[simp] theorem State.setCtx_nextTag (c : CtxId) (f : Option Fetch) : (s.setCtx c f).nextTag = s.nextTag := rfl
@[simp] theorem State.setCtx_regs (c : CtxId) (f : Option Fetch) : (s.setCtx c f).regs = s.regs := rfl
@[simp] theorem State.setCtx_msi (c : CtxId) (f : Option Fetch) : (s.setCtx c f).msi = s.msi := rfl
@[simp] theorem State.setCtx_out (c : CtxId) (f : Option Fetch) : (s.setCtx c f).out = s.out := rfl
@[simp] theorem State.setCtx_dir (c : CtxId) (f : Option Fetch) : (s.setCtx c f).dir = s.dir := rfl
@[simp] theorem State.setCtx_strip (c : CtxId) (f : Option Fetch) : (s.setCtx c f).strip = s.strip := rfl
@[simp] theorem State.setCtx_ctl (c : CtxId) (f : Option Fetch) : (s.setCtx c f).ctl = s.ctl := rfl
@[simp] theorem State.setCtx_arbiter (c : CtxId) (f : Option Fetch) : (s.setCtx c f).arbiter = s.arbiter := rfl
@[simp] theorem State.setCtx_ctxs (c : CtxId) (f : Option Fetch) :
    (s.setCtx c f).ctxs = s.ctxs.set c.val f c.isLt := rfl
@[simp] theorem State.setCtx_board (c : CtxId) (f : Option Fetch) : (s.setCtx c f).board = s.board := rfl
@[simp] theorem State.setCtx_lanes (c : CtxId) (f : Option Fetch) : (s.setCtx c f).lanes = s.lanes := rfl
@[simp] theorem State.setCtx_links (c : CtxId) (f : Option Fetch) : (s.setCtx c f).links = s.links := rfl
@[simp] theorem State.setCtx_votes (c : CtxId) (f : Option Fetch) : (s.setCtx c f).votes = s.votes := rfl
@[simp] theorem State.setCtx_mender (c : CtxId) (f : Option Fetch) : (s.setCtx c f).mender = s.mender := rfl
@[simp] theorem State.setCtx_trips (c : CtxId) (f : Option Fetch) : (s.setCtx c f).trips = s.trips := rfl
@[simp] theorem State.setCtx_evaluations (c : CtxId) (f : Option Fetch) : (s.setCtx c f).evaluations = s.evaluations := rfl

/-! #### `State.setTrip` -/
@[simp] theorem State.setTrip_pending (t : TripId) (x : TripPoint) : (s.setTrip t x).pending = s.pending := rfl
@[simp] theorem State.setTrip_clock (t : TripId) (x : TripPoint) : (s.setTrip t x).clock = s.clock := rfl
@[simp] theorem State.setTrip_now (t : TripId) (x : TripPoint) : (s.setTrip t x).now = s.now := rfl
@[simp] theorem State.setTrip_nextTag (t : TripId) (x : TripPoint) : (s.setTrip t x).nextTag = s.nextTag := rfl
@[simp] theorem State.setTrip_regs (t : TripId) (x : TripPoint) : (s.setTrip t x).regs = s.regs := rfl
@[simp] theorem State.setTrip_msi (t : TripId) (x : TripPoint) : (s.setTrip t x).msi = s.msi := rfl
@[simp] theorem State.setTrip_out (t : TripId) (x : TripPoint) : (s.setTrip t x).out = s.out := rfl
@[simp] theorem State.setTrip_dir (t : TripId) (x : TripPoint) : (s.setTrip t x).dir = s.dir := rfl
@[simp] theorem State.setTrip_strip (t : TripId) (x : TripPoint) : (s.setTrip t x).strip = s.strip := rfl
@[simp] theorem State.setTrip_ctl (t : TripId) (x : TripPoint) : (s.setTrip t x).ctl = s.ctl := rfl
@[simp] theorem State.setTrip_arbiter (t : TripId) (x : TripPoint) : (s.setTrip t x).arbiter = s.arbiter := rfl
@[simp] theorem State.setTrip_ctxs (t : TripId) (x : TripPoint) : (s.setTrip t x).ctxs = s.ctxs := rfl
@[simp] theorem State.setTrip_board (t : TripId) (x : TripPoint) : (s.setTrip t x).board = s.board := rfl
@[simp] theorem State.setTrip_lanes (t : TripId) (x : TripPoint) : (s.setTrip t x).lanes = s.lanes := rfl
@[simp] theorem State.setTrip_links (t : TripId) (x : TripPoint) : (s.setTrip t x).links = s.links := rfl
@[simp] theorem State.setTrip_votes (t : TripId) (x : TripPoint) : (s.setTrip t x).votes = s.votes := rfl
@[simp] theorem State.setTrip_mender (t : TripId) (x : TripPoint) : (s.setTrip t x).mender = s.mender := rfl
@[simp] theorem State.setTrip_trips (t : TripId) (x : TripPoint) :
    (s.setTrip t x).trips = s.trips.set t.val x t.isLt := rfl
@[simp] theorem State.setTrip_evaluations (t : TripId) (x : TripPoint) :
    (s.setTrip t x).evaluations = s.evaluations := rfl

/-! #### `State.setStrip` -/
@[simp] theorem State.setStrip_pending (u : FindingsUnit) : (s.setStrip u).pending = s.pending := rfl
@[simp] theorem State.setStrip_clock (u : FindingsUnit) : (s.setStrip u).clock = s.clock := rfl
@[simp] theorem State.setStrip_now (u : FindingsUnit) : (s.setStrip u).now = s.now := rfl
@[simp] theorem State.setStrip_nextTag (u : FindingsUnit) : (s.setStrip u).nextTag = s.nextTag := rfl
@[simp] theorem State.setStrip_regs (u : FindingsUnit) : (s.setStrip u).regs = s.regs := rfl
@[simp] theorem State.setStrip_msi (u : FindingsUnit) : (s.setStrip u).msi = s.msi := rfl
@[simp] theorem State.setStrip_out (u : FindingsUnit) : (s.setStrip u).out = s.out := rfl
@[simp] theorem State.setStrip_dir (u : FindingsUnit) : (s.setStrip u).dir = s.dir := rfl
@[simp] theorem State.setStrip_strip (u : FindingsUnit) : (s.setStrip u).strip = u := rfl
@[simp] theorem State.setStrip_ctl (u : FindingsUnit) : (s.setStrip u).ctl = s.ctl := rfl
@[simp] theorem State.setStrip_arbiter (u : FindingsUnit) : (s.setStrip u).arbiter = s.arbiter := rfl
@[simp] theorem State.setStrip_ctxs (u : FindingsUnit) : (s.setStrip u).ctxs = s.ctxs := rfl
@[simp] theorem State.setStrip_board (u : FindingsUnit) : (s.setStrip u).board = s.board := rfl
@[simp] theorem State.setStrip_lanes (u : FindingsUnit) : (s.setStrip u).lanes = s.lanes := rfl
@[simp] theorem State.setStrip_links (u : FindingsUnit) : (s.setStrip u).links = s.links := rfl
@[simp] theorem State.setStrip_votes (u : FindingsUnit) : (s.setStrip u).votes = s.votes := rfl
@[simp] theorem State.setStrip_mender (u : FindingsUnit) : (s.setStrip u).mender = s.mender := rfl
@[simp] theorem State.setStrip_trips (u : FindingsUnit) : (s.setStrip u).trips = s.trips := rfl
@[simp] theorem State.setStrip_evaluations (u : FindingsUnit) : (s.setStrip u).evaluations = s.evaluations := rfl

/-! #### `State.setRegs` -/
@[simp] theorem State.setRegs_pending (r : Registers) : (s.setRegs r).pending = s.pending := rfl
@[simp] theorem State.setRegs_clock (r : Registers) : (s.setRegs r).clock = s.clock := rfl
@[simp] theorem State.setRegs_now (r : Registers) : (s.setRegs r).now = s.now := rfl
@[simp] theorem State.setRegs_nextTag (r : Registers) : (s.setRegs r).nextTag = s.nextTag := rfl
@[simp] theorem State.setRegs_regs (r : Registers) : (s.setRegs r).regs = r := rfl
@[simp] theorem State.setRegs_msi (r : Registers) : (s.setRegs r).msi = s.msi := rfl
@[simp] theorem State.setRegs_out (r : Registers) : (s.setRegs r).out = s.out := rfl
@[simp] theorem State.setRegs_dir (r : Registers) : (s.setRegs r).dir = s.dir := rfl
@[simp] theorem State.setRegs_strip (r : Registers) : (s.setRegs r).strip = s.strip := rfl
@[simp] theorem State.setRegs_ctl (r : Registers) : (s.setRegs r).ctl = s.ctl := rfl
@[simp] theorem State.setRegs_arbiter (r : Registers) : (s.setRegs r).arbiter = s.arbiter := rfl
@[simp] theorem State.setRegs_ctxs (r : Registers) : (s.setRegs r).ctxs = s.ctxs := rfl
@[simp] theorem State.setRegs_board (r : Registers) : (s.setRegs r).board = s.board := rfl
@[simp] theorem State.setRegs_lanes (r : Registers) : (s.setRegs r).lanes = s.lanes := rfl
@[simp] theorem State.setRegs_links (r : Registers) : (s.setRegs r).links = s.links := rfl
@[simp] theorem State.setRegs_votes (r : Registers) : (s.setRegs r).votes = s.votes := rfl
@[simp] theorem State.setRegs_mender (r : Registers) : (s.setRegs r).mender = s.mender := rfl
@[simp] theorem State.setRegs_trips (r : Registers) : (s.setRegs r).trips = s.trips := rfl
@[simp] theorem State.setRegs_evaluations (r : Registers) : (s.setRegs r).evaluations = s.evaluations := rfl

/-! #### `State.setDir` -/
@[simp] theorem State.setDir_pending (d : Directory) : (s.setDir d).pending = s.pending := rfl
@[simp] theorem State.setDir_clock (d : Directory) : (s.setDir d).clock = s.clock := rfl
@[simp] theorem State.setDir_now (d : Directory) : (s.setDir d).now = s.now := rfl
@[simp] theorem State.setDir_nextTag (d : Directory) : (s.setDir d).nextTag = s.nextTag := rfl
@[simp] theorem State.setDir_regs (d : Directory) : (s.setDir d).regs = s.regs := rfl
@[simp] theorem State.setDir_msi (d : Directory) : (s.setDir d).msi = s.msi := rfl
@[simp] theorem State.setDir_out (d : Directory) : (s.setDir d).out = s.out := rfl
@[simp] theorem State.setDir_dir (d : Directory) : (s.setDir d).dir = d := rfl
@[simp] theorem State.setDir_strip (d : Directory) : (s.setDir d).strip = s.strip := rfl
@[simp] theorem State.setDir_ctl (d : Directory) : (s.setDir d).ctl = s.ctl := rfl
@[simp] theorem State.setDir_arbiter (d : Directory) : (s.setDir d).arbiter = s.arbiter := rfl
@[simp] theorem State.setDir_ctxs (d : Directory) : (s.setDir d).ctxs = s.ctxs := rfl
@[simp] theorem State.setDir_board (d : Directory) : (s.setDir d).board = s.board := rfl
@[simp] theorem State.setDir_lanes (d : Directory) : (s.setDir d).lanes = s.lanes := rfl
@[simp] theorem State.setDir_links (d : Directory) : (s.setDir d).links = s.links := rfl
@[simp] theorem State.setDir_votes (d : Directory) : (s.setDir d).votes = s.votes := rfl
@[simp] theorem State.setDir_mender (d : Directory) : (s.setDir d).mender = s.mender := rfl
@[simp] theorem State.setDir_trips (d : Directory) : (s.setDir d).trips = s.trips := rfl
@[simp] theorem State.setDir_evaluations (d : Directory) : (s.setDir d).evaluations = s.evaluations := rfl

/-! #### `State.post` -/
@[simp] theorem State.post_pending (p : Posted) : (s.post p).pending = s.pending := rfl
@[simp] theorem State.post_clock (p : Posted) : (s.post p).clock = s.clock := rfl
@[simp] theorem State.post_now (p : Posted) : (s.post p).now = s.now := rfl
@[simp] theorem State.post_nextTag (p : Posted) : (s.post p).nextTag = s.nextTag := rfl
@[simp] theorem State.post_regs (p : Posted) : (s.post p).regs = s.regs := rfl
@[simp] theorem State.post_msi (p : Posted) : (s.post p).msi = s.msi := rfl
@[simp] theorem State.post_out (p : Posted) : (s.post p).out = s.out ++ [p] := rfl
@[simp] theorem State.post_dir (p : Posted) : (s.post p).dir = s.dir := rfl
@[simp] theorem State.post_strip (p : Posted) : (s.post p).strip = s.strip := rfl
@[simp] theorem State.post_ctl (p : Posted) : (s.post p).ctl = s.ctl := rfl
@[simp] theorem State.post_arbiter (p : Posted) : (s.post p).arbiter = s.arbiter := rfl
@[simp] theorem State.post_ctxs (p : Posted) : (s.post p).ctxs = s.ctxs := rfl
@[simp] theorem State.post_board (p : Posted) : (s.post p).board = s.board := rfl
@[simp] theorem State.post_lanes (p : Posted) : (s.post p).lanes = s.lanes := rfl
@[simp] theorem State.post_links (p : Posted) : (s.post p).links = s.links := rfl
@[simp] theorem State.post_votes (p : Posted) : (s.post p).votes = s.votes := rfl
@[simp] theorem State.post_mender (p : Posted) : (s.post p).mender = s.mender := rfl
@[simp] theorem State.post_trips (p : Posted) : (s.post p).trips = s.trips := rfl
@[simp] theorem State.post_evaluations (p : Posted) : (s.post p).evaluations = s.evaluations := rfl

/-! #### `State.write` -/
@[simp] theorem State.write_pending (a : Addr) (data : List Byte) : (s.write a data).pending = s.pending := rfl
@[simp] theorem State.write_clock (a : Addr) (data : List Byte) : (s.write a data).clock = s.clock := rfl
@[simp] theorem State.write_now (a : Addr) (data : List Byte) : (s.write a data).now = s.now := rfl
@[simp] theorem State.write_nextTag (a : Addr) (data : List Byte) : (s.write a data).nextTag = s.nextTag := rfl
@[simp] theorem State.write_regs (a : Addr) (data : List Byte) : (s.write a data).regs = s.regs := rfl
@[simp] theorem State.write_msi (a : Addr) (data : List Byte) : (s.write a data).msi = s.msi := rfl
@[simp] theorem State.write_out (a : Addr) (data : List Byte) : (s.write a data).out = s.out ++ [.write a data] := rfl
@[simp] theorem State.write_dir (a : Addr) (data : List Byte) : (s.write a data).dir = s.dir := rfl
@[simp] theorem State.write_strip (a : Addr) (data : List Byte) : (s.write a data).strip = s.strip := rfl
@[simp] theorem State.write_ctl (a : Addr) (data : List Byte) : (s.write a data).ctl = s.ctl := rfl
@[simp] theorem State.write_arbiter (a : Addr) (data : List Byte) : (s.write a data).arbiter = s.arbiter := rfl
@[simp] theorem State.write_ctxs (a : Addr) (data : List Byte) : (s.write a data).ctxs = s.ctxs := rfl
@[simp] theorem State.write_board (a : Addr) (data : List Byte) : (s.write a data).board = s.board := rfl
@[simp] theorem State.write_lanes (a : Addr) (data : List Byte) : (s.write a data).lanes = s.lanes := rfl
@[simp] theorem State.write_links (a : Addr) (data : List Byte) : (s.write a data).links = s.links := rfl
@[simp] theorem State.write_votes (a : Addr) (data : List Byte) : (s.write a data).votes = s.votes := rfl
@[simp] theorem State.write_mender (a : Addr) (data : List Byte) : (s.write a data).mender = s.mender := rfl
@[simp] theorem State.write_trips (a : Addr) (data : List Byte) : (s.write a data).trips = s.trips := rfl
@[simp] theorem State.write_evaluations (a : Addr) (data : List Byte) : (s.write a data).evaluations = s.evaluations := rfl

/-! #### `State.hand` -/
@[simp] theorem State.hand_pending (f : Finding) (w : Submitter) : (s.hand f w).pending = s.pending := rfl
@[simp] theorem State.hand_clock (f : Finding) (w : Submitter) : (s.hand f w).clock = s.clock := rfl
@[simp] theorem State.hand_now (f : Finding) (w : Submitter) : (s.hand f w).now = s.now := rfl
@[simp] theorem State.hand_nextTag (f : Finding) (w : Submitter) : (s.hand f w).nextTag = s.nextTag := rfl
@[simp] theorem State.hand_regs (f : Finding) (w : Submitter) : (s.hand f w).regs = s.regs := rfl
@[simp] theorem State.hand_msi (f : Finding) (w : Submitter) : (s.hand f w).msi = s.msi := rfl
@[simp] theorem State.hand_out (f : Finding) (w : Submitter) : (s.hand f w).out = s.out := rfl
@[simp] theorem State.hand_dir (f : Finding) (w : Submitter) : (s.hand f w).dir = s.dir := rfl
@[simp] theorem State.hand_strip (f : Finding) (w : Submitter) :
    (s.hand f w).strip = { s.strip with waiting := s.strip.waiting ++ [⟨f, w, s.now⟩] } := rfl
@[simp] theorem State.hand_ctl (f : Finding) (w : Submitter) : (s.hand f w).ctl = s.ctl := rfl
@[simp] theorem State.hand_arbiter (f : Finding) (w : Submitter) : (s.hand f w).arbiter = s.arbiter := rfl
@[simp] theorem State.hand_ctxs (f : Finding) (w : Submitter) : (s.hand f w).ctxs = s.ctxs := rfl
@[simp] theorem State.hand_board (f : Finding) (w : Submitter) : (s.hand f w).board = s.board := rfl
@[simp] theorem State.hand_lanes (f : Finding) (w : Submitter) : (s.hand f w).lanes = s.lanes := rfl
@[simp] theorem State.hand_links (f : Finding) (w : Submitter) : (s.hand f w).links = s.links := rfl
@[simp] theorem State.hand_votes (f : Finding) (w : Submitter) : (s.hand f w).votes = s.votes := rfl
@[simp] theorem State.hand_mender (f : Finding) (w : Submitter) : (s.hand f w).mender = s.mender := rfl
@[simp] theorem State.hand_trips (f : Finding) (w : Submitter) : (s.hand f w).trips = s.trips := rfl
@[simp] theorem State.hand_evaluations (f : Finding) (w : Submitter) : (s.hand f w).evaluations = s.evaluations := rfl

/-! #### `State.request` -/
@[simp] theorem State.request_pending (k : CtlKind) (a : Addr) (len n : Nat) :
    (s.request k a len n).pending = s.pending := rfl
@[simp] theorem State.request_clock (k : CtlKind) (a : Addr) (len n : Nat) :
    (s.request k a len n).clock = s.clock := rfl
@[simp] theorem State.request_now (k : CtlKind) (a : Addr) (len n : Nat) : (s.request k a len n).now = s.now := rfl
@[simp] theorem State.request_nextTag (k : CtlKind) (a : Addr) (len n : Nat) :
    (s.request k a len n).nextTag = s.nextTag + 1 := rfl
@[simp] theorem State.request_regs (k : CtlKind) (a : Addr) (len n : Nat) : (s.request k a len n).regs = s.regs := rfl
@[simp] theorem State.request_msi (k : CtlKind) (a : Addr) (len n : Nat) : (s.request k a len n).msi = s.msi := rfl
@[simp] theorem State.request_out (k : CtlKind) (a : Addr) (len n : Nat) : (s.request k a len n).out = s.out := rfl
@[simp] theorem State.request_dir (k : CtlKind) (a : Addr) (len n : Nat) : (s.request k a len n).dir = s.dir := rfl
@[simp] theorem State.request_strip (k : CtlKind) (a : Addr) (len n : Nat) :
    (s.request k a len n).strip = s.strip := rfl
@[simp] theorem State.request_ctl (k : CtlKind) (a : Addr) (len n : Nat) :
    (s.request k a len n).ctl = s.ctl ++ [⟨s.nextTag, k, a, len, n, false, s.now, 0, false⟩] := rfl
@[simp] theorem State.request_arbiter (k : CtlKind) (a : Addr) (len n : Nat) :
    (s.request k a len n).arbiter = s.arbiter := rfl
@[simp] theorem State.request_ctxs (k : CtlKind) (a : Addr) (len n : Nat) : (s.request k a len n).ctxs = s.ctxs := rfl
@[simp] theorem State.request_board (k : CtlKind) (a : Addr) (len n : Nat) :
    (s.request k a len n).board = s.board := rfl
@[simp] theorem State.request_lanes (k : CtlKind) (a : Addr) (len n : Nat) :
    (s.request k a len n).lanes = s.lanes := rfl
@[simp] theorem State.request_links (k : CtlKind) (a : Addr) (len n : Nat) :
    (s.request k a len n).links = s.links := rfl
@[simp] theorem State.request_votes (k : CtlKind) (a : Addr) (len n : Nat) :
    (s.request k a len n).votes = s.votes := rfl
@[simp] theorem State.request_mender (k : CtlKind) (a : Addr) (len n : Nat) :
    (s.request k a len n).mender = s.mender := rfl
@[simp] theorem State.request_trips (k : CtlKind) (a : Addr) (len n : Nat) :
    (s.request k a len n).trips = s.trips := rfl
@[simp] theorem State.request_evaluations (k : CtlKind) (a : Addr) (len n : Nat) :
    (s.request k a len n).evaluations = s.evaluations := rfl

/-! #### `State.retry` -/
@[simp] theorem State.retry_pending (r : CtlRead) : (s.retry r).pending = s.pending := rfl
@[simp] theorem State.retry_clock (r : CtlRead) : (s.retry r).clock = s.clock := rfl
@[simp] theorem State.retry_now (r : CtlRead) : (s.retry r).now = s.now := rfl
@[simp] theorem State.retry_nextTag (r : CtlRead) : (s.retry r).nextTag = s.nextTag + 1 := rfl
@[simp] theorem State.retry_regs (r : CtlRead) : (s.retry r).regs = s.regs := rfl
@[simp] theorem State.retry_msi (r : CtlRead) : (s.retry r).msi = s.msi := rfl
@[simp] theorem State.retry_out (r : CtlRead) : (s.retry r).out = s.out := rfl
@[simp] theorem State.retry_dir (r : CtlRead) : (s.retry r).dir = s.dir := rfl
@[simp] theorem State.retry_strip (r : CtlRead) : (s.retry r).strip = s.strip := rfl
@[simp] theorem State.retry_ctl (r : CtlRead) :
    (s.retry r).ctl = s.ctl ++ [⟨s.nextTag, r.kind, r.addr, r.len, 2, false, s.now, 0, false⟩] := rfl
@[simp] theorem State.retry_arbiter (r : CtlRead) : (s.retry r).arbiter = s.arbiter := rfl
@[simp] theorem State.retry_ctxs (r : CtlRead) : (s.retry r).ctxs = s.ctxs := rfl
@[simp] theorem State.retry_board (r : CtlRead) : (s.retry r).board = s.board := rfl
@[simp] theorem State.retry_lanes (r : CtlRead) : (s.retry r).lanes = s.lanes := rfl
@[simp] theorem State.retry_links (r : CtlRead) : (s.retry r).links = s.links := rfl
@[simp] theorem State.retry_votes (r : CtlRead) : (s.retry r).votes = s.votes := rfl
@[simp] theorem State.retry_mender (r : CtlRead) : (s.retry r).mender = s.mender := rfl
@[simp] theorem State.retry_trips (r : CtlRead) : (s.retry r).trips = s.trips := rfl
@[simp] theorem State.retry_evaluations (r : CtlRead) : (s.retry r).evaluations = s.evaluations := rfl

/-! #### `State.dropRead` -/
@[simp] theorem State.dropRead_pending (tag : Nat) : (s.dropRead tag).pending = s.pending := rfl
@[simp] theorem State.dropRead_clock (tag : Nat) : (s.dropRead tag).clock = s.clock := rfl
@[simp] theorem State.dropRead_now (tag : Nat) : (s.dropRead tag).now = s.now := rfl
@[simp] theorem State.dropRead_nextTag (tag : Nat) : (s.dropRead tag).nextTag = s.nextTag := rfl
@[simp] theorem State.dropRead_regs (tag : Nat) : (s.dropRead tag).regs = s.regs := rfl
@[simp] theorem State.dropRead_msi (tag : Nat) : (s.dropRead tag).msi = s.msi := rfl
@[simp] theorem State.dropRead_out (tag : Nat) : (s.dropRead tag).out = s.out := rfl
@[simp] theorem State.dropRead_dir (tag : Nat) : (s.dropRead tag).dir = s.dir := rfl
@[simp] theorem State.dropRead_strip (tag : Nat) : (s.dropRead tag).strip = s.strip := rfl
@[simp] theorem State.dropRead_ctl (tag : Nat) : (s.dropRead tag).ctl = s.ctl.filter fun r => r.tag ≠ tag := rfl
@[simp] theorem State.dropRead_arbiter (tag : Nat) : (s.dropRead tag).arbiter = s.arbiter := rfl
@[simp] theorem State.dropRead_ctxs (tag : Nat) : (s.dropRead tag).ctxs = s.ctxs := rfl
@[simp] theorem State.dropRead_board (tag : Nat) : (s.dropRead tag).board = s.board := rfl
@[simp] theorem State.dropRead_lanes (tag : Nat) : (s.dropRead tag).lanes = s.lanes := rfl
@[simp] theorem State.dropRead_links (tag : Nat) : (s.dropRead tag).links = s.links := rfl
@[simp] theorem State.dropRead_votes (tag : Nat) : (s.dropRead tag).votes = s.votes := rfl
@[simp] theorem State.dropRead_mender (tag : Nat) : (s.dropRead tag).mender = s.mender := rfl
@[simp] theorem State.dropRead_trips (tag : Nat) : (s.dropRead tag).trips = s.trips := rfl
@[simp] theorem State.dropRead_evaluations (tag : Nat) : (s.dropRead tag).evaluations = s.evaluations := rfl

/-! #### `State.discardReads` -/
@[simp] theorem State.discardReads_pending (p : CtlKind → Bool) : (s.discardReads p).pending = s.pending := rfl
@[simp] theorem State.discardReads_clock (p : CtlKind → Bool) : (s.discardReads p).clock = s.clock := rfl
@[simp] theorem State.discardReads_now (p : CtlKind → Bool) : (s.discardReads p).now = s.now := rfl
@[simp] theorem State.discardReads_nextTag (p : CtlKind → Bool) : (s.discardReads p).nextTag = s.nextTag := rfl
@[simp] theorem State.discardReads_regs (p : CtlKind → Bool) : (s.discardReads p).regs = s.regs := rfl
@[simp] theorem State.discardReads_msi (p : CtlKind → Bool) : (s.discardReads p).msi = s.msi := rfl
@[simp] theorem State.discardReads_out (p : CtlKind → Bool) : (s.discardReads p).out = s.out := rfl
@[simp] theorem State.discardReads_dir (p : CtlKind → Bool) : (s.discardReads p).dir = s.dir := rfl
@[simp] theorem State.discardReads_strip (p : CtlKind → Bool) : (s.discardReads p).strip = s.strip := rfl
@[simp] theorem State.discardReads_ctl (p : CtlKind → Bool) :
    (s.discardReads p).ctl = s.ctl.map fun r => if p r.kind then { r with discard := true } else r := rfl
@[simp] theorem State.discardReads_arbiter (p : CtlKind → Bool) : (s.discardReads p).arbiter = s.arbiter := rfl
@[simp] theorem State.discardReads_ctxs (p : CtlKind → Bool) : (s.discardReads p).ctxs = s.ctxs := rfl
@[simp] theorem State.discardReads_board (p : CtlKind → Bool) : (s.discardReads p).board = s.board := rfl
@[simp] theorem State.discardReads_lanes (p : CtlKind → Bool) : (s.discardReads p).lanes = s.lanes := rfl
@[simp] theorem State.discardReads_links (p : CtlKind → Bool) : (s.discardReads p).links = s.links := rfl
@[simp] theorem State.discardReads_votes (p : CtlKind → Bool) : (s.discardReads p).votes = s.votes := rfl
@[simp] theorem State.discardReads_mender (p : CtlKind → Bool) : (s.discardReads p).mender = s.mender := rfl
@[simp] theorem State.discardReads_trips (p : CtlKind → Bool) : (s.discardReads p).trips = s.trips := rfl
@[simp] theorem State.discardReads_evaluations (p : CtlKind → Bool) : (s.discardReads p).evaluations = s.evaluations := rfl

/-! #### `State.updFrame` -/
@[simp] theorem State.updFrame_pending (n : LaneId) (pos : Word) (g : Frame → Frame) :
    (s.updFrame n pos g).pending = s.pending := rfl
@[simp] theorem State.updFrame_clock (n : LaneId) (pos : Word) (g : Frame → Frame) :
    (s.updFrame n pos g).clock = s.clock := rfl
@[simp] theorem State.updFrame_now (n : LaneId) (pos : Word) (g : Frame → Frame) :
    (s.updFrame n pos g).now = s.now := rfl
@[simp] theorem State.updFrame_nextTag (n : LaneId) (pos : Word) (g : Frame → Frame) :
    (s.updFrame n pos g).nextTag = s.nextTag := rfl
@[simp] theorem State.updFrame_regs (n : LaneId) (pos : Word) (g : Frame → Frame) :
    (s.updFrame n pos g).regs = s.regs := rfl
@[simp] theorem State.updFrame_msi (n : LaneId) (pos : Word) (g : Frame → Frame) :
    (s.updFrame n pos g).msi = s.msi := rfl
@[simp] theorem State.updFrame_out (n : LaneId) (pos : Word) (g : Frame → Frame) :
    (s.updFrame n pos g).out = s.out := rfl
@[simp] theorem State.updFrame_dir (n : LaneId) (pos : Word) (g : Frame → Frame) :
    (s.updFrame n pos g).dir = s.dir := rfl
@[simp] theorem State.updFrame_strip (n : LaneId) (pos : Word) (g : Frame → Frame) :
    (s.updFrame n pos g).strip = s.strip := rfl
@[simp] theorem State.updFrame_ctl (n : LaneId) (pos : Word) (g : Frame → Frame) :
    (s.updFrame n pos g).ctl = s.ctl := rfl
@[simp] theorem State.updFrame_arbiter (n : LaneId) (pos : Word) (g : Frame → Frame) :
    (s.updFrame n pos g).arbiter = s.arbiter := rfl
@[simp] theorem State.updFrame_ctxs (n : LaneId) (pos : Word) (g : Frame → Frame) :
    (s.updFrame n pos g).ctxs = s.ctxs := rfl
@[simp] theorem State.updFrame_board (n : LaneId) (pos : Word) (g : Frame → Frame) :
    (s.updFrame n pos g).board = s.board := rfl
@[simp] theorem State.updFrame_links (n : LaneId) (pos : Word) (g : Frame → Frame) :
    (s.updFrame n pos g).links = s.links := rfl
@[simp] theorem State.updFrame_votes (n : LaneId) (pos : Word) (g : Frame → Frame) :
    (s.updFrame n pos g).votes = s.votes := rfl
@[simp] theorem State.updFrame_mender (n : LaneId) (pos : Word) (g : Frame → Frame) :
    (s.updFrame n pos g).mender = s.mender := rfl
@[simp] theorem State.updFrame_trips (n : LaneId) (pos : Word) (g : Frame → Frame) :
    (s.updFrame n pos g).trips = s.trips := rfl
@[simp] theorem State.updFrame_evaluations (n : LaneId) (pos : Word) (g : Frame → Frame) :
    (s.updFrame n pos g).evaluations = s.evaluations := rfl

/-! #### `State.writeState` -/
@[simp] theorem State.writeState_pending (n : LaneId) : (s.writeState n).pending = s.pending := rfl
@[simp] theorem State.writeState_clock (n : LaneId) : (s.writeState n).clock = s.clock := rfl
@[simp] theorem State.writeState_now (n : LaneId) : (s.writeState n).now = s.now := rfl
@[simp] theorem State.writeState_nextTag (n : LaneId) : (s.writeState n).nextTag = s.nextTag := rfl
@[simp] theorem State.writeState_regs (n : LaneId) : (s.writeState n).regs = s.regs := rfl
@[simp] theorem State.writeState_msi (n : LaneId) : (s.writeState n).msi = s.msi := rfl
@[simp] theorem State.writeState_dir (n : LaneId) : (s.writeState n).dir = s.dir := rfl
@[simp] theorem State.writeState_strip (n : LaneId) : (s.writeState n).strip = s.strip := rfl
@[simp] theorem State.writeState_ctl (n : LaneId) : (s.writeState n).ctl = s.ctl := rfl
@[simp] theorem State.writeState_arbiter (n : LaneId) : (s.writeState n).arbiter = s.arbiter := rfl
@[simp] theorem State.writeState_ctxs (n : LaneId) : (s.writeState n).ctxs = s.ctxs := rfl
@[simp] theorem State.writeState_board (n : LaneId) : (s.writeState n).board = s.board := rfl
@[simp] theorem State.writeState_lanes (n : LaneId) : (s.writeState n).lanes = s.lanes := rfl
@[simp] theorem State.writeState_links (n : LaneId) : (s.writeState n).links = s.links := rfl
@[simp] theorem State.writeState_votes (n : LaneId) : (s.writeState n).votes = s.votes := rfl
@[simp] theorem State.writeState_mender (n : LaneId) : (s.writeState n).mender = s.mender := rfl
@[simp] theorem State.writeState_trips (n : LaneId) : (s.writeState n).trips = s.trips := rfl
@[simp] theorem State.writeState_evaluations (n : LaneId) : (s.writeState n).evaluations = s.evaluations := rfl

/-! #### `State.writeAck` -/
@[simp] theorem State.writeAck_pending (n : LaneId) (q : Word) (r : AckResult) :
    (s.writeAck n q r).pending = s.pending := rfl
@[simp] theorem State.writeAck_clock (n : LaneId) (q : Word) (r : AckResult) :
    (s.writeAck n q r).clock = s.clock := rfl
@[simp] theorem State.writeAck_now (n : LaneId) (q : Word) (r : AckResult) : (s.writeAck n q r).now = s.now := rfl
@[simp] theorem State.writeAck_nextTag (n : LaneId) (q : Word) (r : AckResult) :
    (s.writeAck n q r).nextTag = s.nextTag := rfl
@[simp] theorem State.writeAck_regs (n : LaneId) (q : Word) (r : AckResult) : (s.writeAck n q r).regs = s.regs := rfl
@[simp] theorem State.writeAck_msi (n : LaneId) (q : Word) (r : AckResult) : (s.writeAck n q r).msi = s.msi := rfl
@[simp] theorem State.writeAck_dir (n : LaneId) (q : Word) (r : AckResult) : (s.writeAck n q r).dir = s.dir := rfl
@[simp] theorem State.writeAck_strip (n : LaneId) (q : Word) (r : AckResult) :
    (s.writeAck n q r).strip = s.strip := rfl
@[simp] theorem State.writeAck_ctl (n : LaneId) (q : Word) (r : AckResult) : (s.writeAck n q r).ctl = s.ctl := rfl
@[simp] theorem State.writeAck_arbiter (n : LaneId) (q : Word) (r : AckResult) :
    (s.writeAck n q r).arbiter = s.arbiter := rfl
@[simp] theorem State.writeAck_ctxs (n : LaneId) (q : Word) (r : AckResult) : (s.writeAck n q r).ctxs = s.ctxs := rfl
@[simp] theorem State.writeAck_board (n : LaneId) (q : Word) (r : AckResult) :
    (s.writeAck n q r).board = s.board := rfl
@[simp] theorem State.writeAck_lanes (n : LaneId) (q : Word) (r : AckResult) :
    (s.writeAck n q r).lanes = s.lanes := rfl
@[simp] theorem State.writeAck_links (n : LaneId) (q : Word) (r : AckResult) :
    (s.writeAck n q r).links = s.links := rfl
@[simp] theorem State.writeAck_votes (n : LaneId) (q : Word) (r : AckResult) :
    (s.writeAck n q r).votes = s.votes := rfl
@[simp] theorem State.writeAck_mender (n : LaneId) (q : Word) (r : AckResult) :
    (s.writeAck n q r).mender = s.mender := rfl
@[simp] theorem State.writeAck_trips (n : LaneId) (q : Word) (r : AckResult) :
    (s.writeAck n q r).trips = s.trips := rfl
@[simp] theorem State.writeAck_evaluations (n : LaneId) (q : Word) (r : AckResult) :
    (s.writeAck n q r).evaluations = s.evaluations := rfl

/-! #### `State.writeDrain` -/
@[simp] theorem State.writeDrain_pending (n : LaneId) : (s.writeDrain n).pending = s.pending := rfl
@[simp] theorem State.writeDrain_clock (n : LaneId) : (s.writeDrain n).clock = s.clock := rfl
@[simp] theorem State.writeDrain_now (n : LaneId) : (s.writeDrain n).now = s.now := rfl
@[simp] theorem State.writeDrain_nextTag (n : LaneId) : (s.writeDrain n).nextTag = s.nextTag := rfl
@[simp] theorem State.writeDrain_regs (n : LaneId) : (s.writeDrain n).regs = s.regs := rfl
@[simp] theorem State.writeDrain_msi (n : LaneId) : (s.writeDrain n).msi = s.msi := rfl
@[simp] theorem State.writeDrain_dir (n : LaneId) : (s.writeDrain n).dir = s.dir := rfl
@[simp] theorem State.writeDrain_strip (n : LaneId) : (s.writeDrain n).strip = s.strip := rfl
@[simp] theorem State.writeDrain_ctl (n : LaneId) : (s.writeDrain n).ctl = s.ctl := rfl
@[simp] theorem State.writeDrain_arbiter (n : LaneId) : (s.writeDrain n).arbiter = s.arbiter := rfl
@[simp] theorem State.writeDrain_ctxs (n : LaneId) : (s.writeDrain n).ctxs = s.ctxs := rfl
@[simp] theorem State.writeDrain_board (n : LaneId) : (s.writeDrain n).board = s.board := rfl
@[simp] theorem State.writeDrain_lanes (n : LaneId) : (s.writeDrain n).lanes = s.lanes := rfl
@[simp] theorem State.writeDrain_links (n : LaneId) : (s.writeDrain n).links = s.links := rfl
@[simp] theorem State.writeDrain_votes (n : LaneId) : (s.writeDrain n).votes = s.votes := rfl
@[simp] theorem State.writeDrain_mender (n : LaneId) : (s.writeDrain n).mender = s.mender := rfl
@[simp] theorem State.writeDrain_trips (n : LaneId) : (s.writeDrain n).trips = s.trips := rfl
@[simp] theorem State.writeDrain_evaluations (n : LaneId) : (s.writeDrain n).evaluations = s.evaluations := rfl

/-! #### `State.writeTally` -/
@[simp] theorem State.writeTally_pending (n : LaneId) : (s.writeTally n).pending = s.pending := rfl
@[simp] theorem State.writeTally_clock (n : LaneId) : (s.writeTally n).clock = s.clock := rfl
@[simp] theorem State.writeTally_now (n : LaneId) : (s.writeTally n).now = s.now := rfl
@[simp] theorem State.writeTally_nextTag (n : LaneId) : (s.writeTally n).nextTag = s.nextTag := rfl
@[simp] theorem State.writeTally_regs (n : LaneId) : (s.writeTally n).regs = s.regs := rfl
@[simp] theorem State.writeTally_msi (n : LaneId) : (s.writeTally n).msi = s.msi := rfl
@[simp] theorem State.writeTally_dir (n : LaneId) : (s.writeTally n).dir = s.dir := rfl
@[simp] theorem State.writeTally_strip (n : LaneId) : (s.writeTally n).strip = s.strip := rfl
@[simp] theorem State.writeTally_ctl (n : LaneId) : (s.writeTally n).ctl = s.ctl := rfl
@[simp] theorem State.writeTally_arbiter (n : LaneId) : (s.writeTally n).arbiter = s.arbiter := rfl
@[simp] theorem State.writeTally_ctxs (n : LaneId) : (s.writeTally n).ctxs = s.ctxs := rfl
@[simp] theorem State.writeTally_board (n : LaneId) : (s.writeTally n).board = s.board := rfl
@[simp] theorem State.writeTally_lanes (n : LaneId) : (s.writeTally n).lanes = s.lanes := rfl
@[simp] theorem State.writeTally_links (n : LaneId) : (s.writeTally n).links = s.links := rfl
@[simp] theorem State.writeTally_votes (n : LaneId) : (s.writeTally n).votes = s.votes := rfl
@[simp] theorem State.writeTally_mender (n : LaneId) : (s.writeTally n).mender = s.mender := rfl
@[simp] theorem State.writeTally_trips (n : LaneId) : (s.writeTally n).trips = s.trips := rfl
@[simp] theorem State.writeTally_evaluations (n : LaneId) : (s.writeTally n).evaluations = s.evaluations := rfl

/-! #### `State.unmakeFill` -/
@[simp] theorem State.unmakeFill_pending (n : LaneId) (st : LaneState) : (s.unmakeFill n st).pending = s.pending := rfl
@[simp] theorem State.unmakeFill_clock (n : LaneId) (st : LaneState) : (s.unmakeFill n st).clock = s.clock := rfl
@[simp] theorem State.unmakeFill_now (n : LaneId) (st : LaneState) : (s.unmakeFill n st).now = s.now := rfl
@[simp] theorem State.unmakeFill_nextTag (n : LaneId) (st : LaneState) : (s.unmakeFill n st).nextTag = s.nextTag := rfl
@[simp] theorem State.unmakeFill_regs (n : LaneId) (st : LaneState) : (s.unmakeFill n st).regs = s.regs := rfl
@[simp] theorem State.unmakeFill_msi (n : LaneId) (st : LaneState) : (s.unmakeFill n st).msi = s.msi := rfl
@[simp] theorem State.unmakeFill_out (n : LaneId) (st : LaneState) : (s.unmakeFill n st).out = s.out := rfl
@[simp] theorem State.unmakeFill_dir (n : LaneId) (st : LaneState) : (s.unmakeFill n st).dir = s.dir := rfl
@[simp] theorem State.unmakeFill_strip (n : LaneId) (st : LaneState) : (s.unmakeFill n st).strip = s.strip := rfl
@[simp] theorem State.unmakeFill_arbiter (n : LaneId) (st : LaneState) : (s.unmakeFill n st).arbiter = s.arbiter := rfl
@[simp] theorem State.unmakeFill_ctxs (n : LaneId) (st : LaneState) : (s.unmakeFill n st).ctxs = s.ctxs := rfl
@[simp] theorem State.unmakeFill_board (n : LaneId) (st : LaneState) : (s.unmakeFill n st).board = s.board := rfl
@[simp] theorem State.unmakeFill_lanes (n : LaneId) (st : LaneState) : (s.unmakeFill n st).lanes = s.lanes := rfl
@[simp] theorem State.unmakeFill_links (n : LaneId) (st : LaneState) : (s.unmakeFill n st).links = s.links := rfl
@[simp] theorem State.unmakeFill_votes (n : LaneId) (st : LaneState) : (s.unmakeFill n st).votes = s.votes := rfl
@[simp] theorem State.unmakeFill_mender (n : LaneId) (st : LaneState) : (s.unmakeFill n st).mender = s.mender := rfl
@[simp] theorem State.unmakeFill_trips (n : LaneId) (st : LaneState) : (s.unmakeFill n st).trips = s.trips := rfl
@[simp] theorem State.unmakeFill_evaluations (n : LaneId) (st : LaneState) : (s.unmakeFill n st).evaluations = s.evaluations := rfl
@[simp] theorem State.unmakeFill_ctl (n : LaneId) (st : LaneState) :
    (s.unmakeFill n st).ctl = s.ctl.filter fun r => st.keepsFillLatch || !r.unmade n := rfl

/-! #### `State.enter` -/
@[simp] theorem State.enter_pending (n : LaneId) (st : LaneState) (c : Cause) :
    (s.enter n st c).pending = s.pending := rfl
@[simp] theorem State.enter_clock (n : LaneId) (st : LaneState) (c : Cause) : (s.enter n st c).clock = s.clock := rfl
@[simp] theorem State.enter_now (n : LaneId) (st : LaneState) (c : Cause) : (s.enter n st c).now = s.now := rfl
@[simp] theorem State.enter_nextTag (n : LaneId) (st : LaneState) (c : Cause) :
    (s.enter n st c).nextTag = s.nextTag := rfl
@[simp] theorem State.enter_regs (n : LaneId) (st : LaneState) (c : Cause) : (s.enter n st c).regs = s.regs := rfl
@[simp] theorem State.enter_msi (n : LaneId) (st : LaneState) (c : Cause) : (s.enter n st c).msi = s.msi := rfl
@[simp] theorem State.enter_dir (n : LaneId) (st : LaneState) (c : Cause) : (s.enter n st c).dir = s.dir := rfl
@[simp] theorem State.enter_strip (n : LaneId) (st : LaneState) (c : Cause) : (s.enter n st c).strip = s.strip := rfl
@[simp] theorem State.enter_ctl (n : LaneId) (st : LaneState) (c : Cause) :
    (s.enter n st c).ctl = s.ctl.filter fun r => st.keepsFillLatch || !r.unmade n := rfl
@[simp] theorem State.enter_arbiter (n : LaneId) (st : LaneState) (c : Cause) :
    (s.enter n st c).arbiter = s.arbiter := rfl
@[simp] theorem State.enter_ctxs (n : LaneId) (st : LaneState) (c : Cause) : (s.enter n st c).ctxs = s.ctxs := rfl
@[simp] theorem State.enter_board (n : LaneId) (st : LaneState) (c : Cause) : (s.enter n st c).board = s.board := rfl
@[simp] theorem State.enter_lanes (n : LaneId) (st : LaneState) (c : Cause) :
    (s.enter n st c).lanes = s.lanes.set n.val ((s.lane n).entering st c) n.isLt := rfl
@[simp] theorem State.enter_links (n : LaneId) (st : LaneState) (c : Cause) : (s.enter n st c).links = s.links := rfl
@[simp] theorem State.enter_votes (n : LaneId) (st : LaneState) (c : Cause) : (s.enter n st c).votes = s.votes := rfl
@[simp] theorem State.enter_mender (n : LaneId) (st : LaneState) (c : Cause) :
    (s.enter n st c).mender = s.mender := rfl
@[simp] theorem State.enter_trips (n : LaneId) (st : LaneState) (c : Cause) : (s.enter n st c).trips = s.trips := rfl
@[simp] theorem State.enter_evaluations (n : LaneId) (st : LaneState) (c : Cause) : (s.enter n st c).evaluations = s.evaluations := rfl

/-! #### `State.updEntry` -/
@[simp] theorem State.updEntry_pending (n : LaneId) (pos : Word) (i : Nat) (g : Entry → Entry) :
    (s.updEntry n pos i g).pending = s.pending := rfl
@[simp] theorem State.updEntry_clock (n : LaneId) (pos : Word) (i : Nat) (g : Entry → Entry) :
    (s.updEntry n pos i g).clock = s.clock := rfl
@[simp] theorem State.updEntry_now (n : LaneId) (pos : Word) (i : Nat) (g : Entry → Entry) :
    (s.updEntry n pos i g).now = s.now := rfl
@[simp] theorem State.updEntry_nextTag (n : LaneId) (pos : Word) (i : Nat) (g : Entry → Entry) :
    (s.updEntry n pos i g).nextTag = s.nextTag := rfl
@[simp] theorem State.updEntry_regs (n : LaneId) (pos : Word) (i : Nat) (g : Entry → Entry) :
    (s.updEntry n pos i g).regs = s.regs := rfl
@[simp] theorem State.updEntry_msi (n : LaneId) (pos : Word) (i : Nat) (g : Entry → Entry) :
    (s.updEntry n pos i g).msi = s.msi := rfl
@[simp] theorem State.updEntry_out (n : LaneId) (pos : Word) (i : Nat) (g : Entry → Entry) :
    (s.updEntry n pos i g).out = s.out := rfl
@[simp] theorem State.updEntry_dir (n : LaneId) (pos : Word) (i : Nat) (g : Entry → Entry) :
    (s.updEntry n pos i g).dir = s.dir := rfl
@[simp] theorem State.updEntry_strip (n : LaneId) (pos : Word) (i : Nat) (g : Entry → Entry) :
    (s.updEntry n pos i g).strip = s.strip := rfl
@[simp] theorem State.updEntry_ctl (n : LaneId) (pos : Word) (i : Nat) (g : Entry → Entry) :
    (s.updEntry n pos i g).ctl = s.ctl := rfl
@[simp] theorem State.updEntry_arbiter (n : LaneId) (pos : Word) (i : Nat) (g : Entry → Entry) :
    (s.updEntry n pos i g).arbiter = s.arbiter := rfl
@[simp] theorem State.updEntry_ctxs (n : LaneId) (pos : Word) (i : Nat) (g : Entry → Entry) :
    (s.updEntry n pos i g).ctxs = s.ctxs := rfl
@[simp] theorem State.updEntry_board (n : LaneId) (pos : Word) (i : Nat) (g : Entry → Entry) :
    (s.updEntry n pos i g).board = s.board.map fun e => if e.isAt n pos i then g e else e := rfl
@[simp] theorem State.updEntry_lanes (n : LaneId) (pos : Word) (i : Nat) (g : Entry → Entry) :
    (s.updEntry n pos i g).lanes = s.lanes := rfl
@[simp] theorem State.updEntry_links (n : LaneId) (pos : Word) (i : Nat) (g : Entry → Entry) :
    (s.updEntry n pos i g).links = s.links := rfl
@[simp] theorem State.updEntry_votes (n : LaneId) (pos : Word) (i : Nat) (g : Entry → Entry) :
    (s.updEntry n pos i g).votes = s.votes := rfl
@[simp] theorem State.updEntry_mender (n : LaneId) (pos : Word) (i : Nat) (g : Entry → Entry) :
    (s.updEntry n pos i g).mender = s.mender := rfl
@[simp] theorem State.updEntry_trips (n : LaneId) (pos : Word) (i : Nat) (g : Entry → Entry) :
    (s.updEntry n pos i g).trips = s.trips := rfl
@[simp] theorem State.updEntry_evaluations (n : LaneId) (pos : Word) (i : Nat) (g : Entry → Entry) :
    (s.updEntry n pos i g).evaluations = s.evaluations := rfl

/-! #### `State.removeEntry` -/
@[simp] theorem State.removeEntry_pending (n : LaneId) (pos : Word) (i : Nat) :
    (s.removeEntry n pos i).pending = s.pending := rfl
@[simp] theorem State.removeEntry_clock (n : LaneId) (pos : Word) (i : Nat) :
    (s.removeEntry n pos i).clock = s.clock := rfl
@[simp] theorem State.removeEntry_now (n : LaneId) (pos : Word) (i : Nat) : (s.removeEntry n pos i).now = s.now := rfl
@[simp] theorem State.removeEntry_nextTag (n : LaneId) (pos : Word) (i : Nat) :
    (s.removeEntry n pos i).nextTag = s.nextTag := rfl
@[simp] theorem State.removeEntry_regs (n : LaneId) (pos : Word) (i : Nat) :
    (s.removeEntry n pos i).regs = s.regs := rfl
@[simp] theorem State.removeEntry_msi (n : LaneId) (pos : Word) (i : Nat) : (s.removeEntry n pos i).msi = s.msi := rfl
@[simp] theorem State.removeEntry_out (n : LaneId) (pos : Word) (i : Nat) : (s.removeEntry n pos i).out = s.out := rfl
@[simp] theorem State.removeEntry_dir (n : LaneId) (pos : Word) (i : Nat) : (s.removeEntry n pos i).dir = s.dir := rfl
@[simp] theorem State.removeEntry_strip (n : LaneId) (pos : Word) (i : Nat) :
    (s.removeEntry n pos i).strip = s.strip := rfl
@[simp] theorem State.removeEntry_ctl (n : LaneId) (pos : Word) (i : Nat) : (s.removeEntry n pos i).ctl = s.ctl := rfl
@[simp] theorem State.removeEntry_arbiter (n : LaneId) (pos : Word) (i : Nat) :
    (s.removeEntry n pos i).arbiter = s.arbiter := rfl
@[simp] theorem State.removeEntry_ctxs (n : LaneId) (pos : Word) (i : Nat) :
    (s.removeEntry n pos i).ctxs = s.ctxs := rfl
@[simp] theorem State.removeEntry_board (n : LaneId) (pos : Word) (i : Nat) :
    (s.removeEntry n pos i).board = s.board.filter fun e => !e.isAt n pos i := rfl
@[simp] theorem State.removeEntry_lanes (n : LaneId) (pos : Word) (i : Nat) :
    (s.removeEntry n pos i).lanes = s.lanes := rfl
@[simp] theorem State.removeEntry_links (n : LaneId) (pos : Word) (i : Nat) :
    (s.removeEntry n pos i).links = s.links := rfl
@[simp] theorem State.removeEntry_votes (n : LaneId) (pos : Word) (i : Nat) :
    (s.removeEntry n pos i).votes = s.votes := rfl
@[simp] theorem State.removeEntry_mender (n : LaneId) (pos : Word) (i : Nat) :
    (s.removeEntry n pos i).mender = s.mender := rfl
@[simp] theorem State.removeEntry_trips (n : LaneId) (pos : Word) (i : Nat) :
    (s.removeEntry n pos i).trips = s.trips := rfl
@[simp] theorem State.removeEntry_evaluations (n : LaneId) (pos : Word) (i : Nat) :
    (s.removeEntry n pos i).evaluations = s.evaluations := rfl

/-! #### `State.addEntry` -/
@[simp] theorem State.addEntry_pending (e : Entry) : (s.addEntry e).pending = s.pending := rfl
@[simp] theorem State.addEntry_clock (e : Entry) : (s.addEntry e).clock = s.clock := rfl
@[simp] theorem State.addEntry_now (e : Entry) : (s.addEntry e).now = s.now := rfl
@[simp] theorem State.addEntry_nextTag (e : Entry) : (s.addEntry e).nextTag = s.nextTag := rfl
@[simp] theorem State.addEntry_regs (e : Entry) : (s.addEntry e).regs = s.regs := rfl
@[simp] theorem State.addEntry_msi (e : Entry) : (s.addEntry e).msi = s.msi := rfl
@[simp] theorem State.addEntry_out (e : Entry) : (s.addEntry e).out = s.out := rfl
@[simp] theorem State.addEntry_dir (e : Entry) : (s.addEntry e).dir = s.dir := rfl
@[simp] theorem State.addEntry_strip (e : Entry) : (s.addEntry e).strip = s.strip := rfl
@[simp] theorem State.addEntry_ctl (e : Entry) : (s.addEntry e).ctl = s.ctl := rfl
@[simp] theorem State.addEntry_arbiter (e : Entry) : (s.addEntry e).arbiter = s.arbiter := rfl
@[simp] theorem State.addEntry_ctxs (e : Entry) : (s.addEntry e).ctxs = s.ctxs := rfl
@[simp] theorem State.addEntry_board (e : Entry) : (s.addEntry e).board = s.board ++ [e] := rfl
@[simp] theorem State.addEntry_lanes (e : Entry) : (s.addEntry e).lanes = s.lanes := rfl
@[simp] theorem State.addEntry_links (e : Entry) : (s.addEntry e).links = s.links := rfl
@[simp] theorem State.addEntry_votes (e : Entry) : (s.addEntry e).votes = s.votes := rfl
@[simp] theorem State.addEntry_mender (e : Entry) : (s.addEntry e).mender = s.mender := rfl
@[simp] theorem State.addEntry_trips (e : Entry) : (s.addEntry e).trips = s.trips := rfl
@[simp] theorem State.addEntry_evaluations (e : Entry) : (s.addEntry e).evaluations = s.evaluations := rfl

/-! #### `State.setQueue` -/
@[simp] theorem State.setQueue_pending (q : List MendReq) : (s.setQueue q).pending = s.pending := rfl
@[simp] theorem State.setQueue_clock (q : List MendReq) : (s.setQueue q).clock = s.clock := rfl
@[simp] theorem State.setQueue_now (q : List MendReq) : (s.setQueue q).now = s.now := rfl
@[simp] theorem State.setQueue_nextTag (q : List MendReq) : (s.setQueue q).nextTag = s.nextTag := rfl
@[simp] theorem State.setQueue_regs (q : List MendReq) : (s.setQueue q).regs = s.regs := rfl
@[simp] theorem State.setQueue_msi (q : List MendReq) : (s.setQueue q).msi = s.msi := rfl
@[simp] theorem State.setQueue_out (q : List MendReq) : (s.setQueue q).out = s.out := rfl
@[simp] theorem State.setQueue_dir (q : List MendReq) : (s.setQueue q).dir = s.dir := rfl
@[simp] theorem State.setQueue_strip (q : List MendReq) : (s.setQueue q).strip = s.strip := rfl
@[simp] theorem State.setQueue_ctl (q : List MendReq) : (s.setQueue q).ctl = s.ctl := rfl
@[simp] theorem State.setQueue_arbiter (q : List MendReq) : (s.setQueue q).arbiter = s.arbiter := rfl
@[simp] theorem State.setQueue_ctxs (q : List MendReq) : (s.setQueue q).ctxs = s.ctxs := rfl
@[simp] theorem State.setQueue_board (q : List MendReq) : (s.setQueue q).board = s.board := rfl
@[simp] theorem State.setQueue_lanes (q : List MendReq) : (s.setQueue q).lanes = s.lanes := rfl
@[simp] theorem State.setQueue_links (q : List MendReq) : (s.setQueue q).links = s.links := rfl
@[simp] theorem State.setQueue_votes (q : List MendReq) : (s.setQueue q).votes = s.votes := rfl
@[simp] theorem State.setQueue_mender (q : List MendReq) : (s.setQueue q).mender = { s.mender with queue := q } := rfl
@[simp] theorem State.setQueue_trips (q : List MendReq) : (s.setQueue q).trips = s.trips := rfl
@[simp] theorem State.setQueue_evaluations (q : List MendReq) : (s.setQueue q).evaluations = s.evaluations := rfl

/-! #### `State.setEngine` -/
@[simp] theorem State.setEngine_pending (e : Engine) : (s.setEngine e).pending = s.pending := rfl
@[simp] theorem State.setEngine_clock (e : Engine) : (s.setEngine e).clock = s.clock := rfl
@[simp] theorem State.setEngine_now (e : Engine) : (s.setEngine e).now = s.now := rfl
@[simp] theorem State.setEngine_nextTag (e : Engine) : (s.setEngine e).nextTag = s.nextTag := rfl
@[simp] theorem State.setEngine_regs (e : Engine) : (s.setEngine e).regs = s.regs := rfl
@[simp] theorem State.setEngine_msi (e : Engine) : (s.setEngine e).msi = s.msi := rfl
@[simp] theorem State.setEngine_out (e : Engine) : (s.setEngine e).out = s.out := rfl
@[simp] theorem State.setEngine_dir (e : Engine) : (s.setEngine e).dir = s.dir := rfl
@[simp] theorem State.setEngine_strip (e : Engine) : (s.setEngine e).strip = s.strip := rfl
@[simp] theorem State.setEngine_ctl (e : Engine) : (s.setEngine e).ctl = s.ctl := rfl
@[simp] theorem State.setEngine_arbiter (e : Engine) : (s.setEngine e).arbiter = s.arbiter := rfl
@[simp] theorem State.setEngine_ctxs (e : Engine) : (s.setEngine e).ctxs = s.ctxs := rfl
@[simp] theorem State.setEngine_board (e : Engine) : (s.setEngine e).board = s.board := rfl
@[simp] theorem State.setEngine_lanes (e : Engine) : (s.setEngine e).lanes = s.lanes := rfl
@[simp] theorem State.setEngine_links (e : Engine) : (s.setEngine e).links = s.links := rfl
@[simp] theorem State.setEngine_votes (e : Engine) : (s.setEngine e).votes = s.votes := rfl
@[simp] theorem State.setEngine_mender (e : Engine) : (s.setEngine e).mender = { s.mender with engine := e } := rfl
@[simp] theorem State.setEngine_trips (e : Engine) : (s.setEngine e).trips = s.trips := rfl
@[simp] theorem State.setEngine_evaluations (e : Engine) : (s.setEngine e).evaluations = s.evaluations := rfl

/-! #### `State.stopEntries` -/
@[simp] theorem State.stopEntries_pending (p : Entry → Bool) : (s.stopEntries p).pending = s.pending := rfl
@[simp] theorem State.stopEntries_clock (p : Entry → Bool) : (s.stopEntries p).clock = s.clock := rfl
@[simp] theorem State.stopEntries_now (p : Entry → Bool) : (s.stopEntries p).now = s.now := rfl
@[simp] theorem State.stopEntries_nextTag (p : Entry → Bool) : (s.stopEntries p).nextTag = s.nextTag := rfl
@[simp] theorem State.stopEntries_regs (p : Entry → Bool) : (s.stopEntries p).regs = s.regs := rfl
@[simp] theorem State.stopEntries_msi (p : Entry → Bool) : (s.stopEntries p).msi = s.msi := rfl
@[simp] theorem State.stopEntries_out (p : Entry → Bool) : (s.stopEntries p).out = s.out := rfl
@[simp] theorem State.stopEntries_dir (p : Entry → Bool) : (s.stopEntries p).dir = s.dir := rfl
@[simp] theorem State.stopEntries_strip (p : Entry → Bool) : (s.stopEntries p).strip = s.strip := rfl
@[simp] theorem State.stopEntries_ctl (p : Entry → Bool) : (s.stopEntries p).ctl = s.ctl := rfl
@[simp] theorem State.stopEntries_arbiter (p : Entry → Bool) : (s.stopEntries p).arbiter = s.arbiter := rfl
@[simp] theorem State.stopEntries_ctxs (p : Entry → Bool) : (s.stopEntries p).ctxs = s.ctxs := rfl
@[simp] theorem State.stopEntries_board (p : Entry → Bool) :
    (s.stopEntries p).board = s.board.filterMap fun e => if p e then e.stopped else some e := rfl
@[simp] theorem State.stopEntries_lanes (p : Entry → Bool) : (s.stopEntries p).lanes = s.lanes := rfl
@[simp] theorem State.stopEntries_links (p : Entry → Bool) : (s.stopEntries p).links = s.links := rfl
@[simp] theorem State.stopEntries_votes (p : Entry → Bool) : (s.stopEntries p).votes = s.votes := rfl
@[simp] theorem State.stopEntries_mender (p : Entry → Bool) : (s.stopEntries p).mender = s.mender := rfl
@[simp] theorem State.stopEntries_trips (p : Entry → Bool) : (s.stopEntries p).trips = s.trips := rfl
@[simp] theorem State.stopEntries_evaluations (p : Entry → Bool) : (s.stopEntries p).evaluations = s.evaluations := rfl

/-! #### `State.settleAt` -/
@[simp] theorem State.settleAt_pending (n : LaneId) (pos : Word) (i : Nat) (x : SideOutcome) (y : Option SideOutcome) :
    (s.settleAt n pos i x y).pending = s.pending := rfl
@[simp] theorem State.settleAt_clock (n : LaneId) (pos : Word) (i : Nat) (x : SideOutcome) (y : Option SideOutcome) :
    (s.settleAt n pos i x y).clock = s.clock := rfl
@[simp] theorem State.settleAt_now (n : LaneId) (pos : Word) (i : Nat) (x : SideOutcome) (y : Option SideOutcome) :
    (s.settleAt n pos i x y).now = s.now := rfl
@[simp] theorem State.settleAt_nextTag (n : LaneId) (pos : Word) (i : Nat) (x : SideOutcome) (y : Option SideOutcome) :
    (s.settleAt n pos i x y).nextTag = s.nextTag := rfl
@[simp] theorem State.settleAt_regs (n : LaneId) (pos : Word) (i : Nat) (x : SideOutcome) (y : Option SideOutcome) :
    (s.settleAt n pos i x y).regs = s.regs := rfl
@[simp] theorem State.settleAt_msi (n : LaneId) (pos : Word) (i : Nat) (x : SideOutcome) (y : Option SideOutcome) :
    (s.settleAt n pos i x y).msi = s.msi := rfl
@[simp] theorem State.settleAt_out (n : LaneId) (pos : Word) (i : Nat) (x : SideOutcome) (y : Option SideOutcome) :
    (s.settleAt n pos i x y).out = s.out := rfl
@[simp] theorem State.settleAt_dir (n : LaneId) (pos : Word) (i : Nat) (x : SideOutcome) (y : Option SideOutcome) :
    (s.settleAt n pos i x y).dir = s.dir := rfl
@[simp] theorem State.settleAt_strip (n : LaneId) (pos : Word) (i : Nat) (x : SideOutcome) (y : Option SideOutcome) :
    (s.settleAt n pos i x y).strip = s.strip := rfl
@[simp] theorem State.settleAt_ctl (n : LaneId) (pos : Word) (i : Nat) (x : SideOutcome) (y : Option SideOutcome) :
    (s.settleAt n pos i x y).ctl = s.ctl := rfl
@[simp] theorem State.settleAt_arbiter (n : LaneId) (pos : Word) (i : Nat) (x : SideOutcome) (y : Option SideOutcome) :
    (s.settleAt n pos i x y).arbiter = s.arbiter := rfl
@[simp] theorem State.settleAt_ctxs (n : LaneId) (pos : Word) (i : Nat) (x : SideOutcome) (y : Option SideOutcome) :
    (s.settleAt n pos i x y).ctxs = s.ctxs := rfl
@[simp] theorem State.settleAt_board (n : LaneId) (pos : Word) (i : Nat) (x : SideOutcome) (y : Option SideOutcome) :
    (s.settleAt n pos i x y).board = s.board := rfl
@[simp] theorem State.settleAt_links (n : LaneId) (pos : Word) (i : Nat) (x : SideOutcome) (y : Option SideOutcome) :
    (s.settleAt n pos i x y).links = s.links := rfl
@[simp] theorem State.settleAt_votes (n : LaneId) (pos : Word) (i : Nat) (x : SideOutcome) (y : Option SideOutcome) :
    (s.settleAt n pos i x y).votes = s.votes := rfl
@[simp] theorem State.settleAt_mender (n : LaneId) (pos : Word) (i : Nat) (x : SideOutcome) (y : Option SideOutcome) :
    (s.settleAt n pos i x y).mender = s.mender := rfl
@[simp] theorem State.settleAt_trips (n : LaneId) (pos : Word) (i : Nat) (x : SideOutcome) (y : Option SideOutcome) :
    (s.settleAt n pos i x y).trips = s.trips := rfl
@[simp] theorem State.settleAt_evaluations (n : LaneId) (pos : Word) (i : Nat) (x : SideOutcome) (y : Option SideOutcome) :
    (s.settleAt n pos i x y).evaluations = s.evaluations := rfl

/-! #### `State.clearPartners` -/
@[simp] theorem State.clearPartners_pending (n : LaneId) (pos : Word) :
    (s.clearPartners n pos).pending = s.pending := rfl
@[simp] theorem State.clearPartners_clock (n : LaneId) (pos : Word) : (s.clearPartners n pos).clock = s.clock := rfl
@[simp] theorem State.clearPartners_now (n : LaneId) (pos : Word) : (s.clearPartners n pos).now = s.now := rfl
@[simp] theorem State.clearPartners_nextTag (n : LaneId) (pos : Word) :
    (s.clearPartners n pos).nextTag = s.nextTag := rfl
@[simp] theorem State.clearPartners_regs (n : LaneId) (pos : Word) : (s.clearPartners n pos).regs = s.regs := rfl
@[simp] theorem State.clearPartners_msi (n : LaneId) (pos : Word) : (s.clearPartners n pos).msi = s.msi := rfl
@[simp] theorem State.clearPartners_out (n : LaneId) (pos : Word) : (s.clearPartners n pos).out = s.out := rfl
@[simp] theorem State.clearPartners_dir (n : LaneId) (pos : Word) : (s.clearPartners n pos).dir = s.dir := rfl
@[simp] theorem State.clearPartners_strip (n : LaneId) (pos : Word) : (s.clearPartners n pos).strip = s.strip := rfl
@[simp] theorem State.clearPartners_ctl (n : LaneId) (pos : Word) : (s.clearPartners n pos).ctl = s.ctl := rfl
@[simp] theorem State.clearPartners_arbiter (n : LaneId) (pos : Word) :
    (s.clearPartners n pos).arbiter = s.arbiter := rfl
@[simp] theorem State.clearPartners_ctxs (n : LaneId) (pos : Word) : (s.clearPartners n pos).ctxs = s.ctxs := rfl
@[simp] theorem State.clearPartners_lanes (n : LaneId) (pos : Word) : (s.clearPartners n pos).lanes = s.lanes := rfl
@[simp] theorem State.clearPartners_links (n : LaneId) (pos : Word) : (s.clearPartners n pos).links = s.links := rfl
@[simp] theorem State.clearPartners_votes (n : LaneId) (pos : Word) : (s.clearPartners n pos).votes = s.votes := rfl
@[simp] theorem State.clearPartners_mender (n : LaneId) (pos : Word) :
    (s.clearPartners n pos).mender = s.mender := rfl
@[simp] theorem State.clearPartners_trips (n : LaneId) (pos : Word) : (s.clearPartners n pos).trips = s.trips := rfl
@[simp] theorem State.clearPartners_evaluations (n : LaneId) (pos : Word) : (s.clearPartners n pos).evaluations = s.evaluations := rfl

/-! #### `State.clearLanePartners` -/
@[simp] theorem State.clearLanePartners_pending (n : LaneId) : (s.clearLanePartners n).pending = s.pending := rfl
@[simp] theorem State.clearLanePartners_clock (n : LaneId) : (s.clearLanePartners n).clock = s.clock := rfl
@[simp] theorem State.clearLanePartners_now (n : LaneId) : (s.clearLanePartners n).now = s.now := rfl
@[simp] theorem State.clearLanePartners_nextTag (n : LaneId) : (s.clearLanePartners n).nextTag = s.nextTag := rfl
@[simp] theorem State.clearLanePartners_regs (n : LaneId) : (s.clearLanePartners n).regs = s.regs := rfl
@[simp] theorem State.clearLanePartners_msi (n : LaneId) : (s.clearLanePartners n).msi = s.msi := rfl
@[simp] theorem State.clearLanePartners_out (n : LaneId) : (s.clearLanePartners n).out = s.out := rfl
@[simp] theorem State.clearLanePartners_dir (n : LaneId) : (s.clearLanePartners n).dir = s.dir := rfl
@[simp] theorem State.clearLanePartners_strip (n : LaneId) : (s.clearLanePartners n).strip = s.strip := rfl
@[simp] theorem State.clearLanePartners_ctl (n : LaneId) : (s.clearLanePartners n).ctl = s.ctl := rfl
@[simp] theorem State.clearLanePartners_arbiter (n : LaneId) : (s.clearLanePartners n).arbiter = s.arbiter := rfl
@[simp] theorem State.clearLanePartners_ctxs (n : LaneId) : (s.clearLanePartners n).ctxs = s.ctxs := rfl
@[simp] theorem State.clearLanePartners_lanes (n : LaneId) : (s.clearLanePartners n).lanes = s.lanes := rfl
@[simp] theorem State.clearLanePartners_links (n : LaneId) : (s.clearLanePartners n).links = s.links := rfl
@[simp] theorem State.clearLanePartners_votes (n : LaneId) : (s.clearLanePartners n).votes = s.votes := rfl
@[simp] theorem State.clearLanePartners_mender (n : LaneId) : (s.clearLanePartners n).mender = s.mender := rfl
@[simp] theorem State.clearLanePartners_trips (n : LaneId) : (s.clearLanePartners n).trips = s.trips := rfl
@[simp] theorem State.clearLanePartners_evaluations (n : LaneId) : (s.clearLanePartners n).evaluations = s.evaluations := rfl

/-! #### `State.began` -/
@[simp] theorem State.began_pending : (s.began).pending = s.pending := rfl
@[simp] theorem State.began_clock : (s.began).clock = s.clock := rfl
@[simp] theorem State.began_now : (s.began).now = s.now + 1 := rfl
@[simp] theorem State.began_nextTag : (s.began).nextTag = s.nextTag := rfl
@[simp] theorem State.began_regs : (s.began).regs = s.regs := rfl
@[simp] theorem State.began_msi : (s.began).msi = s.msi := rfl
@[simp] theorem State.began_out : (s.began).out = s.out := rfl
@[simp] theorem State.began_dir : (s.began).dir = s.dir := rfl
@[simp] theorem State.began_strip : (s.began).strip = s.strip := rfl
@[simp] theorem State.began_ctl : (s.began).ctl = s.ctl := rfl
@[simp] theorem State.began_arbiter : (s.began).arbiter = s.arbiter := rfl
@[simp] theorem State.began_ctxs : (s.began).ctxs = s.ctxs := rfl
@[simp] theorem State.began_board : (s.began).board = s.board := rfl
@[simp] theorem State.began_lanes : (s.began).lanes = s.lanes := rfl
@[simp] theorem State.began_links : (s.began).links = s.links := rfl
@[simp] theorem State.began_votes : (s.began).votes = s.votes := rfl
@[simp] theorem State.began_mender : (s.began).mender = s.mender := rfl
@[simp] theorem State.began_trips : (s.began).trips = s.trips := rfl
@[simp] theorem State.began_evaluations : (s.began).evaluations = s.evaluations := rfl

/-! #### Parts of the state after one was replaced -/

theorem State.lane_eq (n : LaneId) : s.lane n = s.lanes[n.val] := rfl

@[simp] theorem State.lane_setLane (n m : LaneId) (l : Lane) :
    (s.setLane n l).lane m = if m = n then l else s.lane m := by
  simp only [State.lane, State.setLane_lanes, Vector.getElem_set, Fin.ext_iff, eq_comm]

@[simp] theorem State.lane_updLane (n m : LaneId) (f : Lane → Lane) :
    (s.updLane n f).lane m = if m = n then f (s.lane n) else s.lane m := by
  simp only [State.updLane, State.lane_setLane]

@[simp] theorem State.link_setLink (p q : PairId) (l : Link) :
    (s.setLink p l).link q = if q = p then l else s.link q := by
  simp only [State.link, State.setLink_links, Vector.getElem_set, Fin.ext_iff, eq_comm]

@[simp] theorem State.ctx_setCtx (c d : CtxId) (f : Option Fetch) :
    (s.setCtx c f).ctx d = if d = c then f else s.ctx d := by
  simp only [State.ctx, State.setCtx_ctxs, Vector.getElem_set, Fin.ext_iff, eq_comm]

@[simp] theorem State.trip_setTrip (t u : TripId) (x : TripPoint) :
    (s.setTrip t x).trip u = if u = t then x else s.trip u := by
  simp only [State.trip, State.setTrip_trips, Vector.getElem_set, Fin.ext_iff, eq_comm]

/-- Two states with the same lanes have the same lane contexts. -/
theorem State.lane_congr {s t : State} (h : t.lanes = s.lanes) (n : LaneId) : t.lane n = s.lane n := by
  simp only [State.lane, h]

/-- Two states with the same links have the same links pair by pair. -/
theorem State.link_congr {s t : State} (h : t.links = s.links) (p : PairId) : t.link p = s.link p := by
  simp only [State.link, h]


/-! #### Lanes and links behind the updates that leave them alone -/
@[simp] theorem State.lane_setLink (p : PairId) (l : Link) (ln : LaneId) : (s.setLink p l).lane ln = s.lane ln := rfl
@[simp] theorem State.lane_setCtx (c : CtxId) (f : Option Fetch) (ln : LaneId) : (s.setCtx c f).lane ln = s.lane ln := rfl
@[simp] theorem State.lane_setTrip (t : TripId) (x : TripPoint) (ln : LaneId) : (s.setTrip t x).lane ln = s.lane ln := rfl
@[simp] theorem State.lane_setStrip (u : FindingsUnit) (ln : LaneId) : (s.setStrip u).lane ln = s.lane ln := rfl
@[simp] theorem State.lane_setRegs (r : Registers) (ln : LaneId) : (s.setRegs r).lane ln = s.lane ln := rfl
@[simp] theorem State.lane_setDir (d : Directory) (ln : LaneId) : (s.setDir d).lane ln = s.lane ln := rfl
@[simp] theorem State.lane_post (p : Posted) (ln : LaneId) : (s.post p).lane ln = s.lane ln := rfl
@[simp] theorem State.lane_write (a : Addr) (data : List Byte) (ln : LaneId) : (s.write a data).lane ln = s.lane ln := rfl
@[simp] theorem State.lane_hand (f : Finding) (w : Submitter) (ln : LaneId) : (s.hand f w).lane ln = s.lane ln := rfl
@[simp] theorem State.lane_request (k : CtlKind) (a : Addr) (len n : Nat) (ln : LaneId) : (s.request k a len n).lane ln = s.lane ln := rfl
@[simp] theorem State.lane_retry (r : CtlRead) (ln : LaneId) : (s.retry r).lane ln = s.lane ln := rfl
@[simp] theorem State.lane_dropRead (tag : Nat) (ln : LaneId) : (s.dropRead tag).lane ln = s.lane ln := rfl
@[simp] theorem State.lane_discardReads (p : CtlKind → Bool) (ln : LaneId) : (s.discardReads p).lane ln = s.lane ln := rfl
@[simp] theorem State.lane_writeState (n : LaneId) (ln : LaneId) : (s.writeState n).lane ln = s.lane ln := rfl
@[simp] theorem State.lane_writeAck (n : LaneId) (q : Word) (r : AckResult) (ln : LaneId) : (s.writeAck n q r).lane ln = s.lane ln := rfl
@[simp] theorem State.lane_writeDrain (n : LaneId) (ln : LaneId) : (s.writeDrain n).lane ln = s.lane ln := rfl
@[simp] theorem State.lane_writeTally (n : LaneId) (ln : LaneId) : (s.writeTally n).lane ln = s.lane ln := rfl
@[simp] theorem State.lane_unmakeFill (n : LaneId) (st : LaneState) (ln : LaneId) : (s.unmakeFill n st).lane ln = s.lane ln := rfl
@[simp] theorem State.lane_updEntry (n : LaneId) (pos : Word) (i : Nat) (g : Entry → Entry) (ln : LaneId) : (s.updEntry n pos i g).lane ln = s.lane ln := rfl
@[simp] theorem State.lane_removeEntry (n : LaneId) (pos : Word) (i : Nat) (ln : LaneId) : (s.removeEntry n pos i).lane ln = s.lane ln := rfl
@[simp] theorem State.lane_addEntry (e : Entry) (ln : LaneId) : (s.addEntry e).lane ln = s.lane ln := rfl
@[simp] theorem State.lane_setQueue (q : List MendReq) (ln : LaneId) : (s.setQueue q).lane ln = s.lane ln := rfl
@[simp] theorem State.lane_setEngine (e : Engine) (ln : LaneId) : (s.setEngine e).lane ln = s.lane ln := rfl
@[simp] theorem State.lane_stopEntries (p : Entry → Bool) (ln : LaneId) : (s.stopEntries p).lane ln = s.lane ln := rfl
@[simp] theorem State.lane_clearPartners (n : LaneId) (pos : Word) (ln : LaneId) : (s.clearPartners n pos).lane ln = s.lane ln := rfl
@[simp] theorem State.lane_clearLanePartners (n : LaneId) (ln : LaneId) : (s.clearLanePartners n).lane ln = s.lane ln := rfl
@[simp] theorem State.lane_began (ln : LaneId) : (s.began).lane ln = s.lane ln := rfl
@[simp] theorem State.link_setLane (n : LaneId) (l : Lane) (pr : PairId) : (s.setLane n l).link pr = s.link pr := rfl
@[simp] theorem State.link_updLane (n : LaneId) (f : Lane → Lane) (pr : PairId) : (s.updLane n f).link pr = s.link pr := rfl
@[simp] theorem State.link_setCtx (c : CtxId) (f : Option Fetch) (pr : PairId) : (s.setCtx c f).link pr = s.link pr := rfl
@[simp] theorem State.link_setTrip (t : TripId) (x : TripPoint) (pr : PairId) : (s.setTrip t x).link pr = s.link pr := rfl
@[simp] theorem State.link_setStrip (u : FindingsUnit) (pr : PairId) : (s.setStrip u).link pr = s.link pr := rfl
@[simp] theorem State.link_setRegs (r : Registers) (pr : PairId) : (s.setRegs r).link pr = s.link pr := rfl
@[simp] theorem State.link_setDir (d : Directory) (pr : PairId) : (s.setDir d).link pr = s.link pr := rfl
@[simp] theorem State.link_post (p : Posted) (pr : PairId) : (s.post p).link pr = s.link pr := rfl
@[simp] theorem State.link_write (a : Addr) (data : List Byte) (pr : PairId) : (s.write a data).link pr = s.link pr := rfl
@[simp] theorem State.link_hand (f : Finding) (w : Submitter) (pr : PairId) : (s.hand f w).link pr = s.link pr := rfl
@[simp] theorem State.link_request (k : CtlKind) (a : Addr) (len n : Nat) (pr : PairId) : (s.request k a len n).link pr = s.link pr := rfl
@[simp] theorem State.link_retry (r : CtlRead) (pr : PairId) : (s.retry r).link pr = s.link pr := rfl
@[simp] theorem State.link_dropRead (tag : Nat) (pr : PairId) : (s.dropRead tag).link pr = s.link pr := rfl
@[simp] theorem State.link_discardReads (p : CtlKind → Bool) (pr : PairId) : (s.discardReads p).link pr = s.link pr := rfl
@[simp] theorem State.link_updFrame (n : LaneId) (pos : Word) (g : Frame → Frame) (pr : PairId) : (s.updFrame n pos g).link pr = s.link pr := rfl
@[simp] theorem State.link_writeState (n : LaneId) (pr : PairId) : (s.writeState n).link pr = s.link pr := rfl
@[simp] theorem State.link_writeAck (n : LaneId) (q : Word) (r : AckResult) (pr : PairId) : (s.writeAck n q r).link pr = s.link pr := rfl
@[simp] theorem State.link_writeDrain (n : LaneId) (pr : PairId) : (s.writeDrain n).link pr = s.link pr := rfl
@[simp] theorem State.link_writeTally (n : LaneId) (pr : PairId) : (s.writeTally n).link pr = s.link pr := rfl
@[simp] theorem State.link_unmakeFill (n : LaneId) (st : LaneState) (pr : PairId) : (s.unmakeFill n st).link pr = s.link pr := rfl
@[simp] theorem State.link_enter (n : LaneId) (st : LaneState) (c : Cause) (pr : PairId) : (s.enter n st c).link pr = s.link pr := rfl
@[simp] theorem State.link_updEntry (n : LaneId) (pos : Word) (i : Nat) (g : Entry → Entry) (pr : PairId) : (s.updEntry n pos i g).link pr = s.link pr := rfl
@[simp] theorem State.link_removeEntry (n : LaneId) (pos : Word) (i : Nat) (pr : PairId) : (s.removeEntry n pos i).link pr = s.link pr := rfl
@[simp] theorem State.link_addEntry (e : Entry) (pr : PairId) : (s.addEntry e).link pr = s.link pr := rfl
@[simp] theorem State.link_setQueue (q : List MendReq) (pr : PairId) : (s.setQueue q).link pr = s.link pr := rfl
@[simp] theorem State.link_setEngine (e : Engine) (pr : PairId) : (s.setEngine e).link pr = s.link pr := rfl
@[simp] theorem State.link_stopEntries (p : Entry → Bool) (pr : PairId) : (s.stopEntries p).link pr = s.link pr := rfl
@[simp] theorem State.link_settleAt (n : LaneId) (pos : Word) (i : Nat) (x : SideOutcome) (y : Option SideOutcome) (pr : PairId) : (s.settleAt n pos i x y).link pr = s.link pr := rfl
@[simp] theorem State.link_clearPartners (n : LaneId) (pos : Word) (pr : PairId) : (s.clearPartners n pos).link pr = s.link pr := rfl
@[simp] theorem State.link_clearLanePartners (n : LaneId) (pr : PairId) : (s.clearLanePartners n).link pr = s.link pr := rfl
@[simp] theorem State.link_began (pr : PairId) : (s.began).link pr = s.link pr := rfl

end Sys2Proof.Machine
end

