-- ==== Sys2Proof/Laws/Kept.lean ====
section
/-! SUPPORT. What the part's background work leaves alone, said once for each shared operation: board, mend, twin and
lane-stopping work never changes a register but ATTENTION, a lane's counts, settings, window positions, pace counter or
scores; it only appends to the write path and to the waiting findings, and never makes a lane's board entries more. -/

namespace Sys2Proof.Machine

/-- What background work leaves alone in a lane context. -/
structure LaneKept (l m : Lane) : Prop where
  sheet : m.sheet = l.sheet
  settings : m.settings = l.settings
  lastSeq : m.lastSeq = l.lastSeq
  drain : m.drain = l.drain
  taken : m.taken = l.taken
  fillSeen : m.fillSeen = l.fillSeen
  withdraws : m.withdraws = l.withdraws
  positions : m.window.map Frame.pos = l.window.map Frame.pos
  count : m.pacing.count = l.pacing.count
  group : m.pacing.group = l.pacing.group
  extraSpent : m.pacing.extraSpent = l.pacing.extraSpent
  permit : m.pacing.permit = l.pacing.permit
  tally : m.tally = { l.tally with longestStarve := m.tally.longestStarve }
  longest : m.tally.longestStarve ≤ max l.tally.longestStarve l.pacing.starveMs
  starve : m.pacing.starveMs ≤ l.pacing.starveMs

/-- What background work leaves alone in the state. -/
structure Kept (s t : State) : Prop where
  pending : t.pending = s.pending
  clock : t.clock = s.clock
  now : t.now = s.now
  msi : t.msi = s.msi
  dir : t.dir = s.dir
  arbiter : t.arbiter = s.arbiter
  ctxs : t.ctxs = s.ctxs
  regs : t.regs = { s.regs with attention := t.regs.attention }
  strip : t.strip = { s.strip with waiting := t.strip.waiting }
  waiting : s.strip.waiting <+: t.strip.waiting
  tags : s.nextTag ≤ t.nextTag
  out : s.out <+: t.out
  reads : s.ReadsInOrder → t.ReadsInOrder
  boardLength : t.board.length ≤ s.board.length
  quota : ∀ n, t.quotaCount n ≤ s.quotaCount n
  lane : ∀ n, LaneKept (s.lane n) (t.lane n)

theorem LaneKept.refl (l : Lane) : LaneKept l l := by
  constructor <;> first | exact rfl | exact Nat.le_max_left _ _ | exact Nat.le_refl _

theorem LaneKept.trans {a b c : Lane} (h : LaneKept a b) (k : LaneKept b c) : LaneKept a c where
  sheet := k.sheet.trans h.sheet
  settings := k.settings.trans h.settings
  lastSeq := k.lastSeq.trans h.lastSeq
  drain := k.drain.trans h.drain
  taken := k.taken.trans h.taken
  fillSeen := k.fillSeen.trans h.fillSeen
  withdraws := k.withdraws.trans h.withdraws
  positions := k.positions.trans h.positions
  count := k.count.trans h.count
  group := k.group.trans h.group
  extraSpent := k.extraSpent.trans h.extraSpent
  permit := k.permit.trans h.permit
  tally := by rw [k.tally, h.tally]
  longest := by
    have := h.longest
    have := k.longest
    have := h.starve
    omega
  starve := Nat.le_trans k.starve h.starve

theorem Kept.refl (s : State) : Kept s s where
  pending := rfl
  clock := rfl
  now := rfl
  msi := rfl
  dir := rfl
  arbiter := rfl
  ctxs := rfl
  regs := rfl
  strip := rfl
  waiting := List.prefix_refl _
  tags := Nat.le_refl _
  out := List.prefix_refl _
  reads := id
  boardLength := Nat.le_refl _
  quota := fun _ => Nat.le_refl _
  lane := fun _ => .refl _

theorem Kept.trans {s t u : State} (h : Kept s t) (k : Kept t u) : Kept s u where
  pending := k.pending.trans h.pending
  clock := k.clock.trans h.clock
  now := k.now.trans h.now
  msi := k.msi.trans h.msi
  dir := k.dir.trans h.dir
  arbiter := k.arbiter.trans h.arbiter
  ctxs := k.ctxs.trans h.ctxs
  regs := by rw [k.regs, h.regs]
  strip := by rw [k.strip, h.strip]
  waiting := h.waiting.trans k.waiting
  tags := Nat.le_trans h.tags k.tags
  out := h.out.trans k.out
  reads := k.reads ∘ h.reads
  boardLength := Nat.le_trans k.boardLength h.boardLength
  quota := fun n => Nat.le_trans (k.quota n) (h.quota n)
  lane := fun n => (h.lane n).trans (k.lane n)

/-- A fold of kept steps is kept. -/
theorem Kept.foldl {α : Type} {f : State → α → State} (h : ∀ s a, Kept s (f s a)) (l : List α) (s : State) :
    Kept s (l.foldl f s) := by
  induction l generalizing s with
  | nil => exact .refl s
  | cons a l ih => exact (h s a).trans (ih _)

/-- A choice between kept states is kept. -/
theorem Kept.ite {s t u : State} {p : Prop} [Decidable p] (h : Kept s t) (k : Kept s u) :
    Kept s (if p then t else u) := by
  split <;> assumption

/-! ### The order of the control reads -/

/-- The reads left when some have been taken in stand in order. -/
theorem State.ReadsInOrder.filter {s : State} (h : s.ReadsInOrder) (p : CtlRead → Bool) :
    { s with ctl := s.ctl.filter p }.ReadsInOrder :=
  ⟨h.1.sublist List.filter_sublist, fun r hr => h.2 r (List.mem_filter.1 hr).1⟩

/-- Marking reads leaves their order. -/
theorem State.ReadsInOrder.map {s : State} (h : s.ReadsInOrder) (f : CtlRead → CtlRead)
    (hf : ∀ r, (f r).since = r.since ∧ (f r).tag = r.tag) : { s with ctl := s.ctl.map f }.ReadsInOrder := by
  refine ⟨List.pairwise_map.2 (h.1.imp fun {r q} k => ?_), fun r hr => ?_⟩
  · simpa only [(hf r).1, (hf r).2, (hf q).1, (hf q).2] using k
  · obtain ⟨q, hq, rfl⟩ := List.mem_map.1 hr
    simpa only [(hf q).1, (hf q).2] using h.2 q hq

/-- A read that begins to wait stands behind all others. -/
theorem State.ReadsInOrder.request {s : State} (h : s.ReadsInOrder) (k : CtlKind) (a : Addr) (len n : Nat) :
    (s.request k a len n).ReadsInOrder := by
  refine ⟨List.pairwise_append.2 ⟨h.1, List.pairwise_singleton _ _, fun r hr q hq => ?_⟩, fun r hr => ?_⟩
  · cases List.mem_singleton.1 hq
    exact h.2 r hr
  · rcases List.mem_append.1 hr with hr | hr
    · exact ⟨(h.2 r hr).1, Nat.lt_succ_of_lt (h.2 r hr).2⟩
    · cases List.mem_singleton.1 hr
      exact ⟨Nat.le_refl _, Nat.lt_succ_self _⟩

/-! ### The primitive updates -/

section primitives

variable (s : State)

/-- A lane is changed in what background work may change. -/
theorem State.updLane_kept (n : LaneId) (f : Lane → Lane) (h : LaneKept (s.lane n) (f (s.lane n))) :
    Kept s (s.updLane n f) :=
  { Kept.refl s with
    lane := fun m => by
      rw [State.lane_updLane]
      split
      next e => exact e ▸ h
      next => exact .refl _ }

theorem State.setLink_kept (p : PairId) (l : Link) : Kept s (s.setLink p l) := { Kept.refl s with }
theorem State.setQueue_kept (q : List MendReq) : Kept s (s.setQueue q) := { Kept.refl s with }
theorem State.setEngine_kept (e : Engine) : Kept s (s.setEngine e) := { Kept.refl s with }
theorem State.setTrip_kept (t : TripId) (x : TripPoint) : Kept s (s.setTrip t x) := { Kept.refl s with }
theorem State.setVotes_kept (v : List VoteWait) : Kept s { s with votes := v } := { Kept.refl s with }
theorem State.dropRead_kept (tag : Nat) : Kept s (s.dropRead tag) :=
  { Kept.refl s with
    reads := fun h => h.filter _ }
theorem State.discardReads_kept (p : CtlKind → Bool) : Kept s (s.discardReads p) :=
  { Kept.refl s with
    reads := fun h => h.map _ fun r => by split <;> exact ⟨rfl, rfl⟩ }

theorem State.unmakeFill_kept (n : LaneId) (st : LaneState) : Kept s (s.unmakeFill n st) :=
  { Kept.refl s with
    reads := fun h => h.filter _ }

theorem State.setEvaluations_kept (e : List (LaneId × TripId)) : Kept s { s with evaluations := e } := { Kept.refl s with }

theorem State.request_kept (k : CtlKind) (a : Addr) (len n : Nat) : Kept s (s.request k a len n) :=
  { Kept.refl s with
    tags := by simp
    reads := fun h => h.request k a len n }

theorem State.retry_kept (r : CtlRead) : Kept s (s.retry r) := s.request_kept _ _ _ _

theorem State.post_kept (p : Posted) : Kept s (s.post p) :=
  { Kept.refl s with
    out := List.prefix_append _ _ }

theorem State.write_kept (a : Addr) (data : List Byte) : Kept s (s.write a data) := s.post_kept _
theorem State.writeState_kept (n : LaneId) : Kept s (s.writeState n) := s.post_kept _
theorem State.writeAck_kept (n : LaneId) (q : Word) (r : AckResult) : Kept s (s.writeAck n q r) := s.post_kept _
theorem State.writeDrain_kept (n : LaneId) : Kept s (s.writeDrain n) := s.post_kept _
theorem State.writeTally_kept (n : LaneId) : Kept s (s.writeTally n) := s.post_kept _

theorem State.hand_kept (f : Finding) (w : Submitter) : Kept s (s.hand f w) :=
  { Kept.refl s with strip := rfl, waiting := List.prefix_append _ _ }

/-- A cause is raised: ATTENTION changes, and a message may be sent. -/
theorem State.raise_kept (c : Attention) : Kept s (s.raise c) := by
  unfold State.raise State.driveRegs
  split
  · exact { Kept.refl s with out := List.prefix_append _ _, regs := rfl }
  · exact { Kept.refl s with regs := rfl }

/-- A board that is no longer, lane by lane, in place of the old one. -/
theorem State.setBoard_kept (b : List Entry) (h : b.length ≤ s.board.length)
    (k : ∀ n : LaneId, (b.countP fun e => e.lane = n) ≤ s.quotaCount n) : Kept s { s with board := b } :=
  { Kept.refl s with
    boardLength := h
    quota := k }

end primitives

/-! ### Lane contexts -/

theorem Lane.setWindow_kept (l : Lane) (w : List Frame) (h : w.map Frame.pos = l.window.map Frame.pos) :
    LaneKept l { l with window := w } :=
  { LaneKept.refl l with
    positions := h }

/-- A frame record is changed in anything but its position. -/
theorem State.updFrame_kept (s : State) (n : LaneId) (pos : Word) (g : Frame → Frame) (h : ∀ f, (g f).pos = f.pos) :
    Kept s (s.updFrame n pos g) := by
  refine s.updLane_kept _ _ (Lane.setWindow_kept _ _ ?_)
  rw [List.map_map]
  refine List.map_congr_left fun f _ => ?_
  simp only [Function.comp]
  split
  · exact h f
  · rfl

theorem Lane.captureStarve_kept (l : Lane) : LaneKept l l.captureStarve := by
  unfold Lane.captureStarve
  split
  · exact { LaneKept.refl l with tally := rfl, longest := Nat.le_refl _ }
  · exact .refl l

theorem Lane.entering_kept (l : Lane) (st : LaneState) (c : Cause) : LaneKept l (l.entering st c) := by
  have h : LaneKept l.captureStarve
      { l.captureStarve with
          state := st
          cause := c
          fillLatch := l.captureStarve.fillLatch && st.keepsFillLatch } := { LaneKept.refl l.captureStarve with }
  unfold Lane.entering
  split
  · exact (l.captureStarve_kept.trans h).trans { LaneKept.refl _ with longest := Nat.le_max_left _ _, starve := Nat.zero_le _ }
  · exact l.captureStarve_kept.trans h

theorem State.enter_kept (s : State) (n : LaneId) (st : LaneState) (c : Cause) : Kept s (s.enter n st c) :=
  ((s.unmakeFill_kept n st).trans (State.updLane_kept _ n _ (Lane.entering_kept _ _ _))).trans (State.writeState_kept _ _)

theorem State.requestFill_kept (s : State) (n : LaneId) : Kept s (s.requestFill n) := s.request_kept _ _ _ _

theorem State.fillCause_kept (s : State) (n : LaneId) : Kept s (s.fillCause n) := by
  unfold State.fillCause
  split
  · split
    · exact s.updLane_kept n _ { LaneKept.refl _ with }
    · exact s.requestFill_kept n
  · exact .refl s

theorem State.serveFill_kept (s : State) (n : LaneId) : Kept s (s.serveFill n) := by
  unfold State.serveFill
  dsimp only
  split
  · exact (s.updLane_kept n _ { LaneKept.refl _ with }).trans (State.requestFill_kept _ n)
  · exact .refl s

end Sys2Proof.Machine
end

