-- ==== Sys2Proof/Laws/Background.lean ====
section
/-! SUPPORT. The shared operations of the board, the mend queue, the twin reconciler, a lane's stopping and the trip
points are all background work in the sense of `Kept`. -/

namespace Sys2Proof.Machine

/-! ### The board -/

section board

variable (s : State)

theorem State.updEntry_kept (n : LaneId) (pos : Word) (i : Nat) (g : Entry → Entry) (h : ∀ e, (g e).lane = e.lane) :
    Kept s (s.updEntry n pos i g) := by
  refine s.setBoard_kept _ (by simp) fun m => ?_
  rw [List.countP_map]
  refine List.countP_mono_left fun e _ he => ?_
  simp only [Function.comp] at he
  split at he
  · simpa [h] using he
  · exact he

theorem State.filterBoard_kept (p : Entry → Bool) : Kept s { s with board := s.board.filter p } :=
  s.setBoard_kept _ (List.length_filter_le _ _) fun _ => (List.filter_sublist).countP_le

theorem State.removeEntry_kept (n : LaneId) (pos : Word) (i : Nat) : Kept s (s.removeEntry n pos i) :=
  s.filterBoard_kept _

/-- Taking an entry off a list and putting one of its lane at the head makes no lane's entries more. -/
theorem requeue_board (b : List Entry) (p : Entry → Bool) (e e' : Entry) (he : b.find? p = some e)
    (hl : e'.lane = e.lane) (q : Entry → Bool) (hq : ∀ x y : Entry, x.lane = y.lane → q x = q y) :
    (e' :: b.filter fun x => !p x).countP q ≤ b.countP q := by
  induction b with
  | nil => simp at he
  | cons a b ih =>
    rw [List.find?_cons] at he
    split at he
    next ha =>
      simp only [Option.some.injEq] at he
      subst he
      have h1 : ((a :: b).filter fun x => !p x) = b.filter fun x => !p x := by simp [ha]
      rw [h1, List.countP_cons, List.countP_cons, hq e' a hl]
      exact Nat.add_le_add_right (List.filter_sublist).countP_le _
    next ha =>
      have h1 : ((a :: b).filter fun x => !p x) = a :: b.filter fun x => !p x := by simp [ha]
      have := ih he
      rw [h1, List.countP_cons, List.countP_cons, List.countP_cons]
      rw [List.countP_cons] at this
      omega

theorem State.requeue_kept (n : LaneId) (pos : Word) (i : Nat) (pu : Purpose) (v : Option Word) :
    Kept s (s.requeue n pos i pu v) := by
  unfold State.requeue
  split
  · exact .refl s
  next e he =>
    refine s.setBoard_kept _ ?_ fun m => ?_
    · have := requeue_board s.board (fun e => e.isAt n pos i) e
        { e with purpose := pu, first := v, state := .queued, outcome := none } he rfl (fun _ => true) (by simp)
      simpa using this
    · refine requeue_board s.board (fun e => e.isAt n pos i) e
        { e with purpose := pu, first := v, state := .queued, outcome := none } he rfl _ fun x y h => ?_
      simp [h]

theorem State.stopEntries_kept (p : Entry → Bool) : Kept s (s.stopEntries p) := by
  have key : ∀ (b : List Entry) (q : Entry → Bool), (∀ x y : Entry, x.lane = y.lane → q x = q y) →
      (b.filterMap fun e => if p e then e.stopped else some e).countP q ≤ b.countP q := by
    intro b q hq
    induction b with
    | nil => simp
    | cons a b ih =>
      rw [List.filterMap_cons, List.countP_cons]
      split
      · omega
      next e he =>
        have hl : e.lane = a.lane := by
          split at he
          · unfold Entry.stopped at he
            split at he
            · simp only [Option.some.injEq] at he
              rw [← he]
            · simp at he
          · simp only [Option.some.injEq] at he
            rw [he]
        rw [List.countP_cons, hq e a hl]
        omega
  refine s.setBoard_kept _ ?_ fun m => key _ _ fun x y h => by simp [h]
  simpa using key s.board (fun _ => true) (by simp)

theorem State.mapBoard_kept (g : Entry → Entry) (h : ∀ e, (g e).lane = e.lane) :
    Kept s { s with board := s.board.map g } := by
  refine s.setBoard_kept _ (by simp) fun m => ?_
  rw [List.countP_map]
  refine List.countP_mono_left fun e _ he => ?_
  simpa [h] using he

theorem State.clearPartners_kept (n : LaneId) (pos : Word) : Kept s (s.clearPartners n pos) :=
  s.mapBoard_kept _ fun e => by split <;> rfl

theorem State.clearLanePartners_kept (n : LaneId) : Kept s (s.clearLanePartners n) :=
  s.mapBoard_kept _ fun e => by split <;> rfl

theorem State.settleAt_kept (n : LaneId) (pos : Word) (i : Nat) (x : SideOutcome) (y : Option SideOutcome) :
    Kept s (s.settleAt n pos i x y) := s.updFrame_kept _ _ _ (by intro _; rfl)

theorem State.placeMend_kept (n : LaneId) (pos : Word) (i : Nat) (d : Word) : Kept s (s.placeMend n pos i d) := by
  unfold State.placeMend
  split
  · exact Kept.ite (s.setQueue_kept _) (.refl s)
  · exact .refl s

theorem State.placeMendIf_kept (n : LaneId) (pos : Word) (i : Nat) (d : Word) : Kept s (s.placeMendIf n pos i d) := by
  unfold State.placeMendIf
  split
  · exact s.placeMend_kept _ _ _ _
  · exact .refl s

theorem State.carryVote_kept (p : PairId) (lp fp : Word) (i : Nat) : Kept s (s.carryVote p lp fp i) := by
  unfold State.carryVote
  split
  · exact (((((s.settleAt_kept _ _ _ _ _).trans (State.settleAt_kept _ _ _ _ _ _)).trans
      (State.removeEntry_kept _ _ _ _)).trans (State.removeEntry_kept _ _ _ _)).trans
      (State.placeMendIf_kept _ _ _ _ _)).trans (State.placeMendIf_kept _ _ _ _ _)
  · exact .refl s

theorem State.givePlace_kept : Kept s s.givePlace := by
  unfold State.givePlace
  split
  · exact .refl s
  · exact Kept.ite (.refl s) (Kept.ite ((s.setVotes_kept _).trans (State.carryVote_kept _ _ _ _ _)) (s.setVotes_kept _))

theorem State.givePlaces_kept (k : Nat) (s : State) : Kept s (s.givePlaces k) := by
  induction k generalizing s with
  | zero => exact .refl s
  | succ k ih => exact s.givePlace_kept.trans (ih _)

theorem State.dropVotes_kept (p : VoteWait → Bool) : Kept s (s.dropVotes p) :=
  (s.setVotes_kept _).trans (State.givePlaces_kept _ _)

theorem State.tryVote_kept (p : PairId) (lp fp : Word) (i : Nat) : Kept s (s.tryVote p lp fp i) := by
  unfold State.tryVote
  split
  · split
    · split
      · exact (s.requeue_kept _ _ _ _ _).trans (State.requeue_kept _ _ _ _ _ _)
      · dsimp only
        split
        · exact s.carryVote_kept _ _ _ _
        · exact s.setVotes_kept _
    · exact .refl s
  · exact .refl s

theorem State.settleOther_kept (n : LaneId) (pos : Word) (i : Nat) (x : SideOutcome) (d : Word) :
    Kept s (s.settleOther n pos i x d) := by
  unfold State.settleOther
  split
  · exact .refl s
  · split
    · dsimp only
      split
      · split
        · exact (s.settleAt_kept _ _ _ _ _).trans (State.placeMend_kept _ _ _ _ _)
        · exact (s.settleAt_kept _ _ _ _ _).trans (State.hand_kept _ _ _)
      · exact s.settleAt_kept _ _ _ _ _
    · exact .refl s

theorem State.settleSolo_kept (n : LaneId) (pos : Word) (i : Nat) (x : SideOutcome) : Kept s (s.settleSolo n pos i x) := by
  have h := (s.settleAt_kept n pos i x none).trans (State.removeEntry_kept _ n pos i)
  unfold State.settleSolo
  dsimp only
  split
  · exact h.trans (State.settleOther_kept _ _ _ _ _ _)
  · exact h

theorem State.giveOutcome_kept (n : LaneId) (pos : Word) (i : Nat) (x : SideOutcome) :
    Kept s (s.giveOutcome n pos i x) := by
  unfold State.giveOutcome
  split
  · exact s.settleSolo_kept _ _ _ _
  · dsimp only
    split
    · exact (s.updEntry_kept n pos i _ (by intro _; rfl)).trans (State.tryVote_kept _ _ _ _ _)
    · exact (s.updEntry_kept n pos i _ (by intro _; rfl)).trans (State.tryVote_kept _ _ _ _ _)

theorem State.handleFinished_kept (e : Entry) (v : Word) : Kept s (s.handleFinished e v) := by
  unfold State.handleFinished
  dsimp only
  split
  · exact s.giveOutcome_kept _ _ _ _
  · split
    · exact s.requeue_kept _ _ _ _ _
    · exact s.giveOutcome_kept _ _ _ _

theorem State.handleFailed_kept (e : Entry) : Kept s (s.handleFailed e) := by
  unfold State.handleFailed
  split
  · exact s.requeue_kept _ _ _ _ _
  · exact s.giveOutcome_kept _ _ _ _
  · exact s.giveOutcome_kept _ _ _ _

/-- A fetch end only takes entries off the board or re-queues them, and only settles stripes. -/
theorem State.fetchEnded_kept (n : LaneId) (pos : Word) (i : Nat) (v : Option Word) :
    Kept s (s.fetchEnded n pos i v) := by
  unfold State.fetchEnded
  split
  · exact .refl s
  · split
    · exact s.removeEntry_kept _ _ _
    · split
      · exact (s.updEntry_kept n pos i _ (by intro _; rfl)).trans (State.handleFinished_kept _ _ _)
      · exact (s.updEntry_kept n pos i _ (by intro _; rfl)).trans (State.handleFailed_kept _ _)

theorem State.settleUnreadable_kept (n : LaneId) (pos : Word) : Kept s (s.settleUnreadable n pos) :=
  s.updFrame_kept _ _ _ fun f => by split <;> rfl

theorem State.settleBothUnreadable_kept (p : PairId) (lp fp : Word) : Kept s (s.settleBothUnreadable p lp fp) := by
  unfold State.settleBothUnreadable
  split
  · split
    · exact (s.updFrame_kept _ _ _ (by intro _; rfl)).trans (State.updFrame_kept _ _ _ _ (by intro _; rfl))
    · exact .refl s
  · exact .refl s

theorem State.refOutcomeSettled_kept (n : LaneId) (pos : Word) : Kept s (s.refOutcomeSettled n pos) := by
  unfold State.refOutcomeSettled
  split
  · split
    · exact s.settleBothUnreadable_kept _ _ _
    · exact s.settleBothUnreadable_kept _ _ _
  · exact s.settleUnreadable_kept _ _

theorem State.settleHeld_kept (e : Entry) : Kept s (s.settleHeld e) := by
  unfold State.settleHeld
  split
  · exact s.settleSolo_kept _ _ _ _
  · exact .refl s

theorem State.unpairEntries_kept (n : LaneId) (pos : Word) : Kept s (s.unpairEntries n pos) :=
  (s.clearPartners_kept n pos).trans (Kept.foldl State.settleHeld_kept _ _)

end board

/-! ### The mend engine -/

section mend

variable (s : State)

theorem State.endActive_kept : Kept s s.endActive :=
  ((s.setQueue_kept _).trans (State.setEngine_kept _ _)).trans (State.givePlace_kept _)

theorem State.endQueued_kept (q : MendReq) : Kept s (s.endQueued q) :=
  (s.setQueue_kept _).trans (State.givePlace_kept _)

/-- The copy of a block is nothing but posted writes. -/
theorem copyBytes_kept (q : MendReq) (off : Nat) (block bs : List Byte) : Kept s (copyBytes q s off block bs).1 := by
  induction bs generalizing s off block with
  | nil => exact .refl s
  | cons b bs ih =>
    unfold copyBytes
    split
    · exact (s.write_kept _ _).trans (ih _ _ _)
    · exact ih _ _ _

theorem State.mendCompared_kept (q : MendReq) (v : Word) : Kept s (s.mendCompared q v) := by
  unfold State.mendCompared
  split
  · exact (s.updFrame_kept _ _ _ (by intro _; rfl)).trans (State.endActive_kept _)
  · exact (s.hand_kept _ _).trans (State.endActive_kept _)

theorem State.mendAdvanced_kept (q : MendReq) (c : Copy) : Kept s (s.mendAdvanced q c) := by
  unfold State.mendAdvanced
  split
  · exact s.mendCompared_kept _ _
  · split
    · split
      · exact s.setEngine_kept _
      · exact (s.hand_kept _ _).trans (State.endActive_kept _)
    · exact s.setEngine_kept _

theorem State.mendStopped_kept (rs : List ReadReq) : Kept s (s.mendStopped rs) := by
  unfold State.mendStopped
  split
  · exact s.endActive_kept
  · exact s.setEngine_kept _

theorem State.cancelFinding_kept (q : MendReq) (silent : MendReq → Bool) : Kept s (s.cancelFinding q silent) := by
  unfold State.cancelFinding
  split
  · exact .refl s
  · exact s.hand_kept _ _

theorem State.cancelActive_kept (p silent : MendReq → Bool) : Kept s (s.cancelActive p silent) := by
  unfold State.cancelActive
  split
  · split
    · exact (s.cancelFinding_kept _ _).trans (State.mendStopped_kept _ _)
    · exact .refl s
  · exact .refl s

theorem State.cancelMends_kept (p silent : MendReq → Bool) : Kept s (s.cancelMends p silent) :=
  (Kept.foldl (fun t q => (t.cancelFinding_kept q silent).trans (State.endQueued_kept _ q)) _ s).trans
    (State.cancelActive_kept _ _ _)

end mend

/-! ### The twin reconciler -/

section reconciler

variable (s : State)

theorem State.goSolo_kept (n : LaneId) (pos : Word) (why : SoloReason) : Kept s (s.goSolo n pos why) := by
  unfold State.goSolo
  split
  · exact .refl s
  · dsimp only
    refine (s.updFrame_kept n pos (fun g => g.solo why) (by intro _; rfl)).trans (Kept.trans ?_ (State.settleUnreadable_kept _ _ _))
    split
    · exact .refl _
    · exact State.hand_kept _ _ _

theorem State.leaveWait_kept (n : LaneId) : Kept s (s.leaveWait n) := by
  unfold State.leaveWait
  split
  · exact s.enter_kept _ _ _
  · exact .refl s

theorem State.enterWait_kept (n : LaneId) : Kept s (s.enterWait n) := by
  unfold State.enterWait
  dsimp only
  split
  · exact s.enter_kept _ _ _
  · exact .refl s

theorem State.decideSolo_kept (p : PairId) (n : LaneId) (pos : Word) (why : SoloReason) :
    Kept s (s.decideSolo p n pos why) :=
  ((s.goSolo_kept _ _ _).trans (State.setLink_kept _ _ _)).trans (State.leaveWait_kept _ _)

theorem State.decidePaired_kept (p : PairId) (a b : Frame) : Kept s (s.decidePaired p a b) :=
  (((((s.updFrame_kept _ _ _ (by intro _; rfl)).trans (State.updFrame_kept _ _ _ _ (by intro _; rfl))).trans
    (State.setLink_kept _ _ _)).trans (State.settleBothUnreadable_kept _ _ _ _)).trans (State.leaveWait_kept _ _)).trans
    (State.leaveWait_kept _ _)

theorem State.decideHeads_kept (p : PairId) (a b : Frame) : Kept s (s.decideHeads p a b) := by
  unfold State.decideHeads
  split
  · split
    · exact s.decidePaired_kept _ _ _
    · exact (s.decideSolo_kept _ _ _ _).trans (State.decideSolo_kept _ _ _ _ _)
  · split
    · exact s.decideSolo_kept _ _ _ _
    · exact s.decideSolo_kept _ _ _ _

theorem State.decideNext_kept (p : PairId) (t : State) (h : s.decideNext p = some t) : Kept s t := by
  unfold State.decideNext at h
  split at h
  · cases h
    exact s.decideHeads_kept _ _ _
  · split at h
    · cases h
      exact s.decideSolo_kept _ _ _ _
    · cases h
  · split at h
    · cases h
      exact s.decideSolo_kept _ _ _ _
    · cases h
  · cases h

theorem State.decideAll_kept (k : Nat) (p : PairId) (s : State) : Kept s (State.decideAll k p s) := by
  induction k generalizing s with
  | zero => exact .refl s
  | succ k ih =>
    unfold State.decideAll
    split
    · exact .refl s
    next t h => exact (s.decideNext_kept p t h).trans (ih t)

/-- Pairing decisions, the pair issue queue and TWIN_WAIT. -/
theorem State.reconcile_kept (p : PairId) : Kept s (s.reconcile p) := by
  unfold State.reconcile
  split
  · exact (((State.decideAll_kept _ _ _).trans (State.setLink_kept _ _ _)).trans (State.enterWait_kept _ _)).trans
      (State.enterWait_kept _ _)
  · exact .refl s

theorem State.partnerWithdrawn_kept (n : LaneId) (pos q : Word) : Kept s (s.partnerWithdrawn n pos q) := by
  unfold State.partnerWithdrawn
  dsimp only
  split
  · exact s.setLink_kept _ _
  · exact ((s.setLink_kept _ _).trans (State.goSolo_kept _ _ _ _)).trans (State.unpairEntries_kept _ _ _)

theorem Lane.loseTwin_kept (l : Lane) : LaneKept l l.loseTwin := by
  refine Lane.setWindow_kept l _ ?_
  rw [List.map_map]
  refine List.map_congr_left fun f _ => ?_
  simp only [Function.comp]
  split <;> rfl

theorem State.settleLaneHeld_kept (n : LaneId) : Kept s (s.settleLaneHeld n) :=
  Kept.foldl State.settleHeld_kept _ _

theorem State.settleLaneUnreadable_kept (n : LaneId) : Kept s (s.settleLaneUnreadable n) :=
  Kept.foldl (fun t (f : Frame) => t.settleUnreadable_kept n f.pos) _ _

theorem State.twinLost_kept (n m : LaneId) (code : Option Nat) : Kept s (s.twinLost n m code) := by
  unfold State.twinLost
  split
  · exact s.hand_kept _ _
  · exact .refl s

/-- The survivor's hand-over and the TWIN_LOST finding. -/
theorem State.linkLoss_kept (n : LaneId) (code : Option Nat) : Kept s (s.linkLoss n code) := by
  unfold State.linkLoss
  split
  · dsimp only
    exact ((((((((s.setLink_kept _ _).trans (State.twinLost_kept _ _ _ _)).trans (State.dropVotes_kept _ _)).trans
      (State.updLane_kept _ _ _ (Lane.loseTwin_kept _))).trans (State.clearLanePartners_kept _ _)).trans
      (State.clearLanePartners_kept _ _)).trans (State.settleLaneHeld_kept _ _)).trans
      (State.settleLaneUnreadable_kept _ _)).trans (State.leaveWait_kept _ _)
  · exact .refl s

end reconciler

/-! ### Stopping a lane's work -/

section stopping

variable (s : State)

theorem State.stopLane_kept (n : LaneId) (code : Nat) : Kept s (s.stopLane n code) :=
  ((s.linkLoss_kept _ _).trans (State.stopEntries_kept _ _)).trans (State.cancelMends_kept _ _ _)

theorem State.faultNow_kept (n : LaneId) (c : Cause) : Kept s (s.faultNow n c) := by
  unfold State.faultNow
  dsimp only
  refine Kept.trans ?_ (State.hand_kept _ _ _)
  refine Kept.trans (((s.stopLane_kept n 2).trans (State.discardReads_kept _ _)).trans (State.enter_kept _ _ _ _))
    (State.updLane_kept _ _ _ ?_)
  exact { LaneKept.refl _ with }

/-- A fault keeps the lane's counts, window positions and withdraw list (R51). -/
theorem State.fault_kept (n : LaneId) (c : Cause) : Kept s (s.fault n c) := by
  unfold State.fault
  dsimp only
  split
  · exact .refl s
  · split
    · exact s.updLane_kept _ _ { LaneKept.refl _ with }
    · exact s.faultNow_kept _ _

theorem State.withdrawEffect_kept (n : LaneId) (pos : Word) (w : Pairing) : Kept s (s.withdrawEffect n pos w) := by
  unfold State.withdrawEffect
  split
  · split
    · exact s.partnerWithdrawn_kept _ _ _
    · exact .refl s
  · exact .refl s
  · exact .refl s

theorem State.leaveEmptyWait_kept (n : LaneId) : Kept s (s.leaveEmptyWait n) := by
  unfold State.leaveEmptyWait
  split
  · exact s.leaveWait_kept _
  · exact .refl s

theorem State.withdrawFrame_kept (n : LaneId) (f : Frame) : Kept s (s.withdrawFrame n f) := by
  unfold State.withdrawFrame
  dsimp only
  exact ((((((s.updFrame_kept _ _ _ (by intro _; rfl)).trans (State.stopEntries_kept _ _)).trans
    (State.dropVotes_kept _ _)).trans (State.withdrawEffect_kept _ _ _ _)).trans (State.cancelMends_kept _ _ _)).trans
    (State.leaveEmptyWait_kept _ _)).trans (State.reconcile_kept _ _)

theorem State.pauseLane_kept (n : LaneId) : Kept s (s.pauseLane n) := by
  unfold State.pauseLane
  split
  · exact s.enter_kept _ _ _
  · exact .refl s

theorem State.pausePair_kept (p : PairId) : Kept s (s.pausePair p) := by
  unfold State.pausePair
  dsimp only
  have h := (s.pauseLane_kept (leader p)).trans (State.pauseLane_kept _ (follower p))
  exact Kept.ite (h.trans (State.updLane_kept _ _ _ (by exact { LaneKept.refl _ with }))) h

theorem State.pauseLanes_kept (n : LaneId) : Kept s (s.pauseLanes n) :=
  Kept.ite (s.pausePair_kept _) (s.pauseLane_kept _)

end stopping

/-! ### Trip points -/

section trips

variable (s : State)

theorem State.tripFires_kept (n : LaneId) (t : TripId) (v : Nat) : Kept s (s.tripFires n t v) := by
  unfold State.tripFires
  dsimp only
  have h := s.hand_kept (tripFinding t (s.trip t) n v (s.lane n).drain) .health
  split
  · exact h.trans (State.setTrip_kept _ _ _)
  · exact (h.trans (State.setTrip_kept _ _ _)).trans (State.pauseLanes_kept _ _)
  · exact h.trans (State.setTrip_kept _ _ _)

theorem State.evaluate_kept (n : LaneId) (t : TripId) : Kept s (s.evaluate n t) := by
  unfold State.evaluate
  dsimp only
  split
  · split
    · exact s.setTrip_kept _ _
    · exact .refl s
  · split
    · exact s.tripFires_kept _ _ _
    · exact .refl s

theorem State.tripAfterClose_kept (n : LaneId) (t : TripId) : Kept s (s.tripAfterClose n t) := by
  unfold State.tripAfterClose
  dsimp only
  split
  · exact (s.setTrip_kept _ _).trans (State.evaluate_kept _ _ _)
  · exact s.setTrip_kept _ _

theorem State.tripsAtOpen_kept (n : LaneId) : Kept s (s.tripsAtOpen n) := { Kept.refl s with }

end trips

end Sys2Proof.Machine
end

