-- ==== Sys2Proof/Laws/Runs.lean ====
section
/-! SUPPORT. What every shared operation keeps, background work or not: the writes issued so far, the bounds of the stripe
board, the agreement of the registers, and any property of the lane contexts that the lanes' own updates keep
(`LaneStable`). -/

namespace Sys2Proof.Machine

/-- A property of a lane context that every update of a lane keeps. -/
structure LaneStable (Q : Lane → Prop) : Prop where
  reset : Q Lane.reset
  kept : ∀ l m, LaneKept l m → Q l → Q m
  sheet : ∀ (l : Lane) (a : Addr), Q l → Q { l with sheet := a }
  lastSeq : ∀ (l : Lane) (q : Word), Q l → Q { l with lastSeq := q }
  cached : ∀ (l : Lane) (h : SheetHeader) (n : LaneId), h.valid n = true → Q l → Q (l.cached h.clamped)
  opened : ∀ l, Q l → Q l.opened
  fillSeen : ∀ (l : Lane) (v : Word), l.acceptsFill v = true → Q l → Q { l with fillSeen := v }
  taking : ∀ (l : Lane) (f : Frame), f.pos = l.taken → Q l → Q (l.taking f)
  tallied : ∀ (l : Lane) (f : Frame), Q l → Q (l.tallied f)
  drained : ∀ l : Lane, l.window ≠ [] → Q l → Q l.drained
  dropped : ∀ l, Q l → Q (Lane.dropped l)
  cleared : ∀ l : Lane, Q l → Q { l with withdraws := [] }
  listed : ∀ (l : Lane) (pos : Word), pos ∉ l.withdraws → l.withdraws.length < Config.withdrawPlaces → Q l →
    Q { l with withdraws := l.listWithdraw pos }
  closeCause : ∀ (l : Lane) (c : Cause), Q l → Q { l with tally := { l.tally with closeCause := c } }
  permit : ∀ (l : Lane) (b : Bool), Q l → Q { l with pacing := { l.pacing with permit := b } }
  counted : ∀ (l : Lane) (k : Nat), Q l → Q { l with pacing := { l.pacing with count := k } }
  paceAtZero : ∀ l, Q l → Q (Lane.paceAtZero l)
  starveMs : ∀ l, Q l → Q (Lane.starveMsMore l)

/-- What the shared operations keep from `s` to `t`: every register but ATTENTION, the directory unit, the model's own
counters and queue, the writes issued so far, the bounds of the board, and the property of the lanes. -/
structure Runs (Q : Lane → Prop) (s t : State) : Prop where
  pending : t.pending = s.pending
  clock : t.clock = s.clock
  now : t.now = s.now
  msi : t.msi = s.msi
  dir : t.dir = s.dir
  regs : t.regs = { s.regs with attention := t.regs.attention }
  out : s.out <+: t.out
  reads : s.ReadsInOrder → t.ReadsInOrder
  board : s.BoardBounded → t.BoardBounded
  lanes : (∀ n, Q (s.lane n)) → ∀ n, Q (t.lane n)

theorem Runs.refl (Q : Lane → Prop) (s : State) : Runs Q s s where
  pending := rfl
  clock := rfl
  now := rfl
  msi := rfl
  dir := rfl
  regs := rfl
  out := List.prefix_refl _
  reads := id
  board := id
  lanes := id

theorem Runs.trans {Q : Lane → Prop} {s t u : State} (h : Runs Q s t) (k : Runs Q t u) : Runs Q s u where
  pending := k.pending.trans h.pending
  clock := k.clock.trans h.clock
  now := k.now.trans h.now
  msi := k.msi.trans h.msi
  dir := k.dir.trans h.dir
  regs := by rw [k.regs, h.regs]
  out := h.out.trans k.out
  reads := k.reads ∘ h.reads
  board := k.board ∘ h.board
  lanes := k.lanes ∘ h.lanes

/-- The registers go on agreeing with one another. -/
theorem Runs.registersAgree {Q : Lane → Prop} {s t : State} (h : Runs Q s t) (r : s.RegistersAgree) :
    t.RegistersAgree := by
  have hr := h.regs
  have hd := h.dir
  constructor
  · rw [hr]; exact r.aligned
  · rw [hr]; exact r.quiesced
  · rw [hr]; exact r.enabled
  · rw [hr, hd]; exact r.reloading

theorem Runs.foldl {Q : Lane → Prop} {α : Type} {f : State → α → State} (h : ∀ s a, Runs Q s (f s a)) (l : List α)
    (s : State) : Runs Q s (l.foldl f s) := by
  induction l generalizing s with
  | nil => exact .refl Q s
  | cons a l ih => exact (h s a).trans (ih _)

/-- Background work keeps it all. -/
theorem Kept.runs {Q : Lane → Prop} (hQ : LaneStable Q) {s t : State} (h : Kept s t) : Runs Q s t where
  pending := h.pending
  clock := h.clock
  now := h.now
  msi := h.msi
  dir := h.dir
  regs := h.regs
  out := h.out
  reads := h.reads
  board := fun b => ⟨Nat.le_trans h.boardLength b.1, fun n => Nat.le_trans (h.quota n) (b.2 n)⟩
  lanes := fun q n => hQ.kept _ _ (h.lane n) (q n)

section

variable {Q : Lane → Prop} (hQ : LaneStable Q) (s : State)

include hQ

omit hQ in
/-- One lane changes by an update that keeps the property. -/
theorem State.updLane_runs (n : LaneId) (f : Lane → Lane) (h : Q (s.lane n) → Q (f (s.lane n))) :
    Runs Q s (s.updLane n f) :=
  { Runs.refl Q s with
    lanes := fun q m => by
      rw [State.lane_updLane]
      split
      next e => exact h (q n)
      next => exact q m }

omit hQ in
theorem State.setStrip_runs (u : FindingsUnit) : Runs Q s (s.setStrip u) :=
  { Runs.refl Q s with }

/-! ### The ends of a reel (R47 to R49) -/

theorem State.enterClosed_runs (n : LaneId) (c : Cause) : Runs Q s (s.enterClosed n c) := by
  unfold State.enterClosed
  refine Runs.trans (Runs.trans (Runs.trans ((s.enter_kept n .closed c).runs hQ) ?_)
    ((State.discardReads_kept _ _).runs hQ)) ((State.linkLoss_kept _ _ _).runs hQ)
  refine State.updLane_runs _ n _ fun q => ?_
  exact hQ.kept _ _ (by exact { LaneKept.refl _ with }) (hQ.permit _ false (hQ.cleared _ q))

theorem State.beginEnd_runs (n : LaneId) (c : Cause) : Runs Q s (s.beginEnd n c) := by
  unfold State.beginEnd
  dsimp only
  refine Runs.trans (Runs.trans ?_ ((State.writeTally_kept _ _).runs hQ)) ((State.hand_kept _ _ _).runs hQ)
  refine State.updLane_runs _ n _ fun q => ?_
  exact hQ.kept _ _ (by exact { LaneKept.refl _ with }) (hQ.closeCause _ c q)

theorem State.finishEnd_runs (n : LaneId) (c : Cause) : Runs Q s (s.finishEnd n c) := by
  unfold State.finishEnd
  split
  · have h : Runs Q s ((s.updLane n fun l => { l with ending := none, abort := none }).enterClosed n c) :=
      (State.updLane_runs _ n _ fun q => hQ.kept _ _ (by exact { LaneKept.refl _ with }) q).trans
        (State.enterClosed_runs hQ _ n c)
    dsimp only
    split
    · exact (h.trans ((State.writeAck_kept _ _ _ _).runs hQ)).trans ((State.raise_kept _ _).runs hQ)
    · exact h.trans ((State.raise_kept _ _).runs hQ)
  · exact .refl Q s

theorem State.reelEndTry_runs (n : LaneId) : Runs Q s (s.reelEndTry n) := by
  unfold State.reelEndTry
  dsimp only
  split
  · exact State.beginEnd_runs hQ s n _
  · exact .refl Q s

theorem State.abortTry_runs (n : LaneId) : Runs Q s (s.abortTry n) := by
  unfold State.abortTry
  dsimp only
  split
  · exact State.beginEnd_runs hQ s n _
  · exact .refl Q s

theorem State.bareTry_runs (n : LaneId) : Runs Q s (s.bareTry n) := by
  unfold State.bareTry
  split
  · split
    · exact (((State.updLane_runs _ n _ fun q => hQ.dropped _ q).trans (State.enterClosed_runs hQ _ n _)).trans
        ((State.writeAck_kept _ _ _ _).runs hQ)).trans ((State.raise_kept _ _).runs hQ)
    · exact .refl Q s
  · exact .refl Q s

theorem State.laneEnd_runs (n : LaneId) : Runs Q s (s.laneEnd n) :=
  ((State.bareTry_runs hQ s n).trans (State.abortTry_runs hQ _ n)).trans (State.reelEndTry_runs hQ _ n)

theorem Lane.aborting_stable (l : Lane) (seq : Word) (bare : Bool) (q : Q l) : Q (l.aborting seq bare) :=
  hQ.kept _ _ (by exact { LaneKept.refl _ with }) (hQ.cleared _ (hQ.kept _ _ l.captureStarve_kept q))

omit hQ in
theorem Lane.withdrawAll_kept (l : Lane) : LaneKept l l.withdrawAll := by
  have h : ∀ fs : List Frame, (fs.map Frame.withdraw).map Frame.pos = fs.map Frame.pos := fun fs => by
    rw [List.map_map]
    rfl
  unfold Lane.withdrawAll
  split
  next f fs _ hw => exact Lane.setWindow_kept l _ (by rw [List.map_cons, h, hw, List.map_cons])
  · exact Lane.setWindow_kept l _ (h _)

theorem State.abortOpen_runs (n : LaneId) (seq : Word) : Runs Q s (s.abortOpen n seq) := by
  have h : Runs Q s ((s.stopLane n 1).discardReads (fun k => k.isFill n || k.isDescriptor n)) :=
    ((s.stopLane_kept n 1).trans (State.discardReads_kept _ _)).runs hQ
  refine Runs.trans (h.trans ?_) (State.laneEnd_runs hQ _ n)
  · exact State.updLane_runs _ n _ fun q =>
      hQ.kept _ _ (Lane.withdrawAll_kept _) (Lane.aborting_stable hQ _ seq false q)

theorem State.abortBare_runs (n : LaneId) (seq : Word) : Runs Q s (s.abortBare n seq) := by
  have h : Runs Q s ((s.stopLane n 1).discardReads (CtlKind.ofReel n)) :=
    ((s.stopLane_kept n 1).trans (State.discardReads_kept _ _)).runs hQ
  refine Runs.trans (h.trans ?_) (State.laneEnd_runs hQ _ n)
  · exact State.updLane_runs _ n _ fun q => Lane.aborting_stable hQ _ seq true q

/-! ### Closing a frame (R126) -/

omit hQ in
theorem State.writeVerdict_kept (n : LaneId) (f : Frame) : Kept s (s.writeVerdict n f) := s.post_kept _

theorem State.writeRecord_runs (n : LaneId) (f : Frame) : Runs Q s (s.writeRecord n f) := by
  unfold State.writeRecord
  dsimp only
  split
  · exact ((s.write_kept _ _).trans (State.write_kept _ _ _)).runs hQ
  · exact .refl Q s

theorem State.closeFollows_runs (n : LaneId) : Runs Q s (s.closeFollows n) := by
  unfold State.closeFollows
  split
  · exact (s.faultNow_kept _ _).runs hQ
  · exact (((s.fillCause_kept _).trans (State.reconcile_kept _ _)).runs hQ).trans (State.laneEnd_runs hQ _ n)

/-- The health unit's evaluations, with what follows the last of a lane's. -/
theorem State.evaluateDue_runs (k : Nat) (s : State) : Runs Q s (State.evaluateDue k s) := by
  induction k generalizing s with
  | zero => exact .refl Q s
  | succ k ih =>
    unfold State.evaluateDue
    split
    · exact .refl Q s
    · split
      · exact .refl Q s
      next n t rest _ =>
        dsimp only
        have h := ((s.setEvaluations_kept rest).trans (State.tripAfterClose_kept _ n t)).runs hQ
        split
        · exact h.trans (ih _)
        · exact (h.trans (State.closeFollows_runs hQ _ n)).trans (ih _)

theorem State.healthGoesOn_runs : Runs Q s s.healthGoesOn := State.evaluateDue_runs hQ _ _

theorem State.tripsAfterClose_runs (n : LaneId) : Runs Q s (s.tripsAfterClose n) :=
  ((s.setEvaluations_kept _).runs hQ).trans (State.healthGoesOn_runs hQ _)

theorem State.closeTail_runs (n : LaneId) : Runs Q s (s.closeTail n) := by
  unfold State.closeTail
  split
  · exact .refl Q s
  next f hf =>
    refine Runs.trans (Runs.trans ?_ ((State.writeDrain_kept _ _).runs hQ)) (State.tripsAfterClose_runs hQ _ n)
    have h : Runs Q s ((s.updLane n fun l => l.tallied f).writeTally n) :=
      (State.updLane_runs _ n _ fun q => hQ.tallied _ f q).trans ((State.writeTally_kept _ _).runs hQ)
    refine h.trans (State.updLane_runs _ n _ fun q => hQ.drained _ ?_ q)
    simp only [State.lane_writeTally, State.lane_updLane, if_true, Lane.tallied]
    intro hw
    rw [hw] at hf
    simp at hf

theorem State.closeNext_runs (n : LaneId) : Runs Q s (s.closeNext n) := by
  unfold State.closeNext
  split
  · exact .refl Q s
  · exact State.closeTail_runs hQ s n
  · exact (State.updLane_runs _ n _ fun q => hQ.kept _ _ (by exact { LaneKept.refl _ with }) q).trans
      ((State.hand_kept _ _ _).runs hQ)

/-- The frame at the old end of a window, fixed for its close, keeps its place (R125). -/
theorem State.beginClose_runs (n : LaneId) (f : Frame) : Runs Q s (s.beginClose n f) := by
  unfold State.beginClose
  dsimp only
  have h : Kept s (s.updFrame n f.pos fun _ => f.fixed (s.lane n).settings.options) := by
    refine s.updLane_kept _ _ (Lane.setWindow_kept _ _ ?_)
    rw [List.map_map]
    refine List.map_congr_left fun g _ => ?_
    simp only [Function.comp]
    split
    next e => exact e.symm
    · rfl
  have k := ((h.runs hQ).trans (State.writeRecord_runs hQ _ n (f.fixed (s.lane n).settings.options))).trans
    ((State.writeVerdict_kept _ n (f.fixed (s.lane n).settings.options)).runs hQ)
  refine (k.trans ?_).trans (State.closeNext_runs hQ _ n)
  exact State.updLane_runs _ n _ fun q => hQ.kept _ _ (by exact { LaneKept.refl _ with }) q

/-! ### The findings unit (R153 to R155) -/

theorem State.placeRecord_runs (f : Finding) : Runs Q s (s.placeRecord f) :=
  (((s.write_kept _ _).runs hQ).trans (State.setStrip_runs _ _)).trans
    (((State.write_kept _ _ _).trans (State.raise_kept _ _)).runs hQ)

theorem State.placeOverrun_runs : Runs Q s s.placeOverrun := by
  unfold State.placeOverrun
  dsimp only
  exact (((((s.write_kept _ _).runs hQ).trans (State.setStrip_runs _ _)).trans ((State.write_kept _ _ _).runs hQ)).trans
    (State.setStrip_runs _ _)).trans (((State.write_kept _ _ _).trans (State.raise_kept _ _)).runs hQ)

theorem State.dropFinding_runs : Runs Q s s.dropFinding := by
  unfold State.dropFinding
  dsimp only
  split
  · exact State.setStrip_runs s _
  · exact (State.setStrip_runs s _).trans ((State.write_kept _ _ _).runs hQ)

theorem State.resumeSubmitter_runs (w : Submitter) : Runs Q s (s.resumeSubmitter w) := by
  unfold State.resumeSubmitter
  split
  · exact State.laneEnd_runs hQ s _
  · exact State.closeNext_runs hQ s _
  · exact (State.finishEnd_runs hQ s _ _).trans (State.laneEnd_runs hQ _ _)
  · exact ((s.raise_kept _).runs hQ).trans (State.laneEnd_runs hQ _ _)
  · exact .refl Q s
  · exact ((s.raise_kept _).runs hQ).trans (State.healthGoesOn_runs hQ _)

theorem State.disposeOf_runs (w : Waiting) : Runs Q s (s.disposeOf w) := by
  unfold State.disposeOf
  dsimp only
  have h : Runs Q s (if (s.strip.overrun && decide (0 < s.strip.room)) = true then s.placeOverrun else s) := by
    split
    · exact State.placeOverrun_runs hQ s
    · exact .refl Q s
  generalize (if (s.strip.overrun && decide (0 < s.strip.room)) = true then s.placeOverrun else s) = t at h ⊢
  refine Runs.trans (h.trans ?_) (State.resumeSubmitter_runs hQ _ _)
  split
  · exact State.placeRecord_runs hQ _ _
  · exact State.dropFinding_runs hQ _

theorem State.dispose_runs (w : Waiting) : Runs Q s (s.dispose w) := by
  unfold State.dispose
  dsimp only
  split
  · exact ((State.setStrip_runs s _).trans (State.setStrip_runs _ _)).trans ((State.request_kept _ _ _ _ _).runs hQ)
  · exact (State.setStrip_runs s _).trans (State.disposeOf_runs hQ _ _)

theorem State.refuseRead_runs : Runs Q s s.refuseRead :=
  (State.setStrip_runs s _).trans ((State.raise_kept _ _).runs hQ)

theorem State.judgeRead_runs (v : Word) : Runs Q s (s.judgeRead v) := by
  unfold State.judgeRead
  split
  · exact State.setStrip_runs s _
  · exact State.refuseRead_runs hQ s

theorem State.disposeWaiting_runs : Runs Q s s.disposeWaiting := by
  unfold State.disposeWaiting
  split
  · exact (State.setStrip_runs s _).trans (State.disposeOf_runs hQ _ _)
  · exact .refl Q s

/-! ### Opening a reel and FILL (R19, R28, R42) -/

theorem State.startHeader_runs (n : LaneId) : Runs Q s (s.startHeader n) := by
  unfold State.startHeader
  split
  · exact (State.updLane_runs _ n _ fun q => hQ.kept _ _ (by exact { LaneKept.refl _ with }) q).trans
      ((State.request_kept _ _ _ _ _).runs hQ)
  · exact State.updLane_runs _ n _ fun q => hQ.kept _ _ (by exact { LaneKept.refl _ with }) q

theorem State.formLink_runs (n : LaneId) : Runs Q s (s.formLink n) := by
  unfold State.formLink
  dsimp only
  refine (((s.setLink_kept _ _).runs hQ).trans (State.updLane_runs _ _ _ fun q => hQ.kept _ _ ?_ q)).trans
    (State.updLane_runs _ n _ fun q => hQ.permit _ false q)
  exact { LaneKept.refl _ with positions := by simp only [List.map_map]; rfl }

theorem State.firstFill_runs (n : LaneId) : Runs Q s (s.firstFill n) := by
  unfold State.firstFill
  split
  · exact State.updLane_runs _ n _ fun q => hQ.kept _ _ (by exact { LaneKept.refl _ with }) q
  · exact (s.requestFill_kept n).runs hQ

theorem State.openReel_runs (n : LaneId) : Runs Q s (s.openReel n) :=
  (((State.updLane_runs _ n _ fun q => hQ.opened _ q).trans ((State.writeDrain_kept _ _).runs hQ)).trans
    ((State.tripsAtOpen_kept _ _).runs hQ)).trans (State.firstFill_runs hQ _ n)

theorem State.afterCheck_runs (n : LaneId) : Runs Q s (s.afterCheck n) := by
  unfold State.afterCheck
  split
  · exact State.openReel_runs hQ s n
  · exact State.updLane_runs _ n _ fun q => hQ.kept _ _ (by exact { LaneKept.refl _ with }) q

theorem State.judgeSheet_runs (n : LaneId) (data : List Byte) : Runs Q s (s.judgeSheet n data) := by
  unfold State.judgeSheet
  dsimp only
  split
  next hv =>
    have h : Runs Q s (s.updLane n fun l => l.cached (readSheetHeader data).clamped) :=
      State.updLane_runs _ n _ fun q => hQ.cached _ _ n hv q
    unfold State.acceptSheet
    dsimp only
    split
    · split
      · exact (h.trans (State.formLink_runs hQ _ n)).trans (State.afterCheck_runs hQ _ n)
      · exact h.trans ((State.fault_kept _ _ _).runs hQ)
    · exact h.trans (State.afterCheck_runs hQ _ n)
  · exact (s.fault_kept _ _).runs hQ

theorem State.leaveOpening_runs (n : LaneId) : Runs Q s (s.leaveOpening n) := by
  have h : Runs Q s (s.updLane n fun l => { l with opening := .idle, drainOnFill := false, pauseOnFill := false }) :=
    State.updLane_runs _ n _ fun q => hQ.kept _ _ (by exact { LaneKept.refl _ with }) q
  unfold State.leaveOpening
  dsimp only
  split
  · exact h.trans ((State.enter_kept _ _ _ _).runs hQ)
  · split
    · exact h.trans ((State.enter_kept _ _ _ _).runs hQ)
    · split
      · exact h.trans ((State.enter_kept _ _ _ _).runs hQ)
      · exact h.trans ((State.enter_kept _ _ _ _).runs hQ)

theorem State.fillMoves_runs (n : LaneId) : Runs Q s (s.fillMoves n) := by
  unfold State.fillMoves
  dsimp only
  split
  · exact State.leaveOpening_runs hQ s n
  · split
    · exact (s.enter_kept _ _ _).runs hQ
    · exact .refl Q s
  · split
    · exact (s.enter_kept _ _ _).runs hQ
    · exact .refl Q s
  all_goals exact .refl Q s

theorem State.takeFill_runs (n : LaneId) (v : Word) : Runs Q s (s.takeFill n v) := by
  unfold State.takeFill
  split
  next hv =>
    have h : Runs Q s (s.updLane n fun l => { l with fillSeen := v }) :=
      State.updLane_runs _ n _ fun q => hQ.fillSeen _ v hv q
    exact ((h.trans (State.fillMoves_runs hQ _ n)).trans
      (((State.serveFill_kept _ _).trans (State.reconcile_kept _ _)).runs hQ)).trans (State.laneEnd_runs hQ _ n)
  · exact (s.fault_kept _ _).runs hQ

theorem State.fillDiscarded_runs (n : LaneId) : Runs Q s (s.fillDiscarded n) :=
  ((s.serveFill_kept n).runs hQ).trans (State.laneEnd_runs hQ _ n)

theorem State.openStep_runs (n : LaneId) : Runs Q s (s.openStep n) := by
  unfold State.openStep
  split
  · exact State.startHeader_runs hQ s n
  · exact (State.openReel_runs hQ s n).trans ((State.reconcile_kept _ _).runs hQ)
  all_goals exact .refl Q s

theorem State.sheetReadFailed_runs (r : CtlRead) (n : LaneId) : Runs Q s (s.sheetReadFailed r n) := by
  unfold State.sheetReadFailed
  dsimp only
  split
  · exact ((s.dropRead_kept _).runs hQ).trans (State.laneEnd_runs hQ _ n)
  · split
    · exact ((s.dropRead_kept _).trans (State.retry_kept _ _)).runs hQ
    · exact ((s.dropRead_kept _).trans (State.fault_kept _ _ _)).runs hQ

/-! ### Wakes and commands (R38 to R49) -/

theorem State.wakeLane_runs (n : LaneId) : Runs Q s (s.wakeLane n) := by
  unfold State.wakeLane
  split
  · exact (s.request_kept _ _ _ _).runs hQ
  · exact State.updLane_runs _ n _ fun q => hQ.kept _ _ (by exact { LaneKept.refl _ with }) q

/-- A lane entry arrives whose command keeps it all. -/
theorem State.entryArrives_runs (tag : Nat) (seq : Word) (act : LaneId → State → State)
    (h : ∀ n s, Runs Q s (act n s)) (t : State) (ht : s.entryArrives tag seq act = some t) : Runs Q s t := by
  unfold State.entryArrives at ht
  split at ht
  · cases ht
  · split at ht
    next n _ =>
      dsimp only at ht
      split at ht
      · cases ht
        exact ((s.dropRead_kept _).trans (State.fillCause_kept _ _)).runs hQ
      · cases ht
        exact ((((s.dropRead_kept _).runs hQ).trans (State.updLane_runs _ n _ fun q => hQ.lastSeq _ seq q)).trans
          (h n _)).trans ((State.fillCause_kept _ _).runs hQ)
    · cases ht

theorem State.openCommand_runs (n : LaneId) (seq : Word) (sheet : Addr) : Runs Q s (s.openCommand n seq sheet) := by
  unfold State.openCommand
  dsimp only
  split
  · have h : Runs Q s (((s.updLane n fun l =>
        { l with sheet := alignDown sheet 8, drainOnFill := false, pauseOnFill := false }).enter n .opening .noCause).writeAck n seq .done) :=
      (State.updLane_runs _ n _ fun q => hQ.kept _ _ (by exact { LaneKept.refl _ with }) (hQ.sheet _ (alignDown sheet 8) q)).trans
        (((State.enter_kept _ _ _ _).trans (State.writeAck_kept _ _ _ _)).runs hQ)
    split
    · exact h.trans ((State.fault_kept _ _ _).runs hQ)
    · exact h.trans (State.startHeader_runs hQ _ n)
  · exact (s.writeAck_kept _ _ _).runs hQ

omit hQ in
theorem State.resumeLane_kept (n : LaneId) : Kept s (s.resumeLane n) := by
  unfold State.resumeLane
  split
  · exact s.enter_kept _ _ _
  · exact .refl s

omit hQ in
theorem State.drainLane_kept (n : LaneId) : Kept s (s.drainLane n) := by
  unfold State.drainLane
  split
  · exact s.enter_kept _ _ _
  · exact .refl s

omit hQ in
theorem State.drainFollower_kept (n : LaneId) : Kept s (s.drainFollower n) := by
  unfold State.drainFollower
  split
  · exact s.updLane_kept _ _ { LaneKept.refl _ with }
  · exact s.drainLane_kept _

omit hQ in
theorem State.pauseCommand_kept (n : LaneId) (seq : Word) : Kept s (s.pauseCommand n seq) := by
  unfold State.pauseCommand
  split
  · exact s.writeAck_kept _ _ _
  · split
    · exact (s.pauseLanes_kept _).trans (State.writeAck_kept _ _ _ _)
    · split
      · exact s.writeAck_kept _ _ _
      · exact s.writeAck_kept _ _ _

omit hQ in
theorem State.resumeLanes_kept (n : LaneId) (seq : Word) : Kept s (s.resumeLanes n seq) := by
  unfold State.resumeLanes
  dsimp only
  split
  · refine Kept.trans ?_ (State.reconcile_kept _ _)
    have h := (((s.resumeLane_kept n).trans (State.resumeLane_kept _ (twin n))).trans
      (State.writeAck_kept _ n seq .done)).trans (State.fillCause_kept _ n)
    split
    · exact h.trans (State.fillCause_kept _ _)
    · exact h
  · exact ((s.resumeLane_kept n).trans (State.writeAck_kept _ _ _ _)).trans (State.fillCause_kept _ _)

omit hQ in
theorem State.resumeCommand_kept (n : LaneId) (seq : Word) : Kept s (s.resumeCommand n seq) := by
  unfold State.resumeCommand
  split
  · exact s.writeAck_kept _ _ _
  · split
    · exact s.resumeLanes_kept _ _
    · exact s.writeAck_kept _ _ _

theorem State.closeCommand_runs (n : LaneId) (seq : Word) : Runs Q s (s.closeCommand n seq) := by
  unfold State.closeCommand State.closeLanes
  split
  · exact (s.writeAck_kept _ _ _).runs hQ
  · split
    · split
      · exact ((((((s.drainLane_kept n).trans (State.drainFollower_kept _ (twin n))).trans
          (State.writeAck_kept _ n seq .done)).trans (State.reconcile_kept _ _)).runs hQ).trans
          (State.laneEnd_runs hQ _ n)).trans (State.laneEnd_runs hQ _ (twin n))
      · exact (((s.drainLane_kept n).trans (State.writeAck_kept _ n seq .done)).runs hQ).trans (State.laneEnd_runs hQ _ n)
    · split
      · exact (s.writeAck_kept _ _ _).runs hQ
      · exact (s.writeAck_kept _ _ _).runs hQ

theorem State.abortCommand_runs (n : LaneId) (seq : Word) : Runs Q s (s.abortCommand n seq) := by
  unfold State.abortCommand
  split
  · exact (s.writeAck_kept _ _ _).runs hQ
  · split
    · exact State.abortBare_runs hQ s n seq
    · exact State.abortOpen_runs hQ s n seq

/-! ### Recalls (R53) -/

theorem State.judgeRecall_runs (n : LaneId) (w : Word) : Runs Q s (s.judgeRecall n w) := by
  unfold State.judgeRecall
  dsimp only
  split
  · exact (s.raise_kept _).runs hQ
  · split
    · exact (s.hand_kept _ _).runs hQ
    · split
      · unfold State.recallFrame
        split
        · exact (s.hand_kept _ _).runs hQ
        · split
          · exact .refl Q s
          · exact (s.withdrawFrame_kept _ _).runs hQ
          · exact (s.withdrawFrame_kept _ _).runs hQ
      · unfold State.recallAhead
        dsimp only
        split
        · exact (s.raise_kept _).runs hQ
        · split
          · exact .refl Q s
          · split
            next hm hl => exact State.updLane_runs _ n _ fun q => hQ.listed _ _ hm hl q
            · exact (s.raise_kept _).runs hQ

/-! ### Taking frames and reference lists (R29 to R33, R7 to R10) -/

theorem State.takeFrame_runs (n : LaneId) (data : List Byte) : Runs Q s (s.takeFrame n data) := by
  unfold State.takeFrame
  dsimp only
  refine Runs.trans ?_ (State.laneEnd_runs hQ _ n)
  refine Runs.trans ?_ (((State.settleUnreadable_kept _ n _).trans
    ((State.reconcile_kept _ _).trans (State.fillCause_kept _ _))).runs hQ)
  exact State.updLane_runs _ n _ fun q => hQ.taking _ _ rfl q

theorem State.descriptorFailed_runs (r : CtlRead) (n : LaneId) : Runs Q s (s.descriptorFailed r n) := by
  unfold State.descriptorFailed
  dsimp only
  split
  · exact ((s.dropRead_kept _).runs hQ).trans (State.laneEnd_runs hQ _ n)
  · split
    · exact ((s.dropRead_kept _).trans (State.retry_kept _ _)).runs hQ
    · exact ((s.dropRead_kept _).trans (State.fault_kept _ _ _)).runs hQ

omit hQ in
theorem State.startRefs_kept (n : LaneId) : Kept s (s.startRefs n) := by
  unfold State.startRefs
  split
  · exact Kept.foldl (fun t (f : Frame) =>
      (t.updFrame_kept n f.pos Frame.readingRef (by intro _; rfl)).trans (State.request_kept _ _ _ _ _)) _ _
  · exact .refl s

omit hQ in
theorem State.rejectRef_kept (n : LaneId) (f : Frame) (why : Rejection) : Kept s (s.rejectRef n f why) :=
  ((s.updFrame_kept n f.pos _ (by intro _; rfl)).trans (State.hand_kept _ _ _)).trans (State.refOutcomeSettled_kept _ _ _)

theorem State.refFailed_runs (r : CtlRead) (n : LaneId) (pos : Word) : Runs Q s (s.refFailed r n pos) := by
  have hd := (s.dropRead_kept r.tag).runs hQ
  unfold State.refFailed
  dsimp only
  split
  · exact hd.trans (State.laneEnd_runs hQ _ n)
  · split
    · exact hd.trans (State.laneEnd_runs hQ _ n)
    · split
      · exact hd.trans ((State.request_kept _ _ _ _ _).runs hQ)
      · exact hd.trans ((State.rejectRef_kept _ _ _ _).runs hQ)

theorem State.refHeader_runs (r : CtlRead) (n : LaneId) (pos : Word) (data : List Byte) :
    Runs Q s (s.refHeader r n pos data) := by
  have hd := (s.dropRead_kept r.tag).runs hQ
  unfold State.refHeader
  dsimp only
  split
  · exact hd.trans (State.laneEnd_runs hQ _ n)
  · split
    · exact hd.trans (State.laneEnd_runs hQ _ n)
    · split
      · exact hd.trans ((State.request_kept _ _ _ _ _).runs hQ)
      · split
        · exact hd.trans ((State.request_kept _ _ _ _ _).runs hQ)
        · exact hd.trans ((State.rejectRef_kept _ _ _ _).runs hQ)

theorem State.refBody_runs (r : CtlRead) (n : LaneId) (pos : Word) (first : Nat) (data : List Byte) :
    Runs Q s (s.refBody r n pos first data) := by
  have hd := (s.dropRead_kept r.tag).runs hQ
  unfold State.refBody
  dsimp only
  split
  · exact hd.trans (State.laneEnd_runs hQ _ n)
  next f _ =>
    split
    · exact hd.trans (State.laneEnd_runs hQ _ n)
    · have hu : Runs Q s (if f.kind = .normal then (s.dropRead r.tag).updFrame n pos fun g =>
          g.copied first (leWords data) else s.dropRead r.tag) := by
        split
        · exact hd.trans ((State.updFrame_kept _ _ _ _ (by intro _; rfl)).runs hQ)
        · exact hd
      split
      · exact hu.trans ((State.request_kept _ _ _ _ _).runs hQ)
      · split
        next hk =>
          rw [if_pos hk] at hu
          exact hu.trans (((State.updFrame_kept _ _ _ _ (by intro _; rfl)).trans
            (State.refOutcomeSettled_kept _ _ _)).runs hQ)
        next hk =>
          rw [if_neg hk] at hu
          exact hu.trans (State.laneEnd_runs hQ _ n)

/-! ### Pacing (R59, R66, R68) -/

theorem State.pollExpires_runs (n : LaneId) : Runs Q s (s.pollExpires n) :=
  (State.updLane_runs _ n _ fun q => hQ.kept _ _ (by exact { LaneKept.refl _ with }) q).trans
    ((State.fillCause_kept _ _).runs hQ)

theorem State.pollTick_runs (n : LaneId) : Runs Q s (s.pollTick n) := by
  unfold State.pollTick
  split
  · exact State.updLane_runs _ n _ fun q => hQ.kept _ _ (by exact { LaneKept.refl _ with }) q
  · exact State.pollExpires_runs hQ s n

theorem State.starveMs_runs (n : LaneId) : Runs Q s (s.starveMs n) := by
  have h : Runs Q s (s.updLane n Lane.starveMsMore) := State.updLane_runs _ n _ fun q => hQ.starveMs _ q
  unfold State.starveMs
  dsimp only
  split
  · exact (h.trans ((State.hand_kept _ _ _).runs hQ)).trans
      (State.updLane_runs _ n _ fun q => hQ.kept _ _ (by exact { LaneKept.refl _ with }) q)
  · exact h

theorem State.starveTick_runs (n : LaneId) : Runs Q s (s.starveTick n) := by
  unfold State.starveTick
  split
  · exact State.updLane_runs _ n _ fun q => hQ.kept _ _ (by exact { LaneKept.refl _ with }) q
  · exact (State.updLane_runs _ n _ fun q => hQ.kept _ _ (by exact { LaneKept.refl _ with }) q).trans
      (State.starveMs_runs hQ _ n)

theorem Lane.paceTick_stable (l : Lane) (q : Q l) : Q l.paceTick := by
  unfold Lane.paceTick
  split
  · exact hQ.counted _ _ q
  · exact hQ.paceAtZero _ q

theorem State.laneTick_runs (n : LaneId) : Runs Q s (s.laneTick n) := by
  unfold State.laneTick
  dsimp only
  have h : Runs Q s (if s.paceRuns n = true then s.updLane n Lane.paceTick else s) := by
    split
    · exact State.updLane_runs _ n _ fun q => Lane.paceTick_stable hQ _ q
    · exact .refl Q s
  generalize (if s.paceRuns n = true then s.updLane n Lane.paceTick else s) = t at h ⊢
  split
  · exact (h.trans (State.pollTick_runs hQ _ n)).trans (State.starveTick_runs hQ _ n)
  · exact h

/-! ### Fetches and mends (R84, R115) -/

omit hQ in
theorem State.setCtx_runs (c : CtxId) (f : Option Fetch) : Runs Q s (s.setCtx c f) :=
  { Runs.refl Q s with }

theorem State.endFetch_runs (c : CtxId) (f : Fetch) (v : Option Word) : Runs Q s (s.endFetch c f v) :=
  ((State.setCtx_runs s _ _).trans ((State.fetchEnded_kept _ _ _ _ _).runs hQ)).trans (State.laneEnd_runs hQ _ _)

theorem State.fetchAdvanced_runs (c : CtxId) (f : Fetch) (t : Stream) : Runs Q s (s.fetchAdvanced c f t) := by
  unfold State.fetchAdvanced
  split
  · exact State.endFetch_runs hQ s _ _ _
  · split
    · exact State.endFetch_runs hQ s _ _ _
    · exact State.setCtx_runs s _ _

theorem State.bareEnds_runs : Runs Q s s.bareEnds := Runs.foldl (fun t n => State.bareTry_runs hQ t n) _ _

theorem State.mendReceives_runs (q : MendReq) (c : Copy) (tag : Nat) (addr : Addr) (data : List Byte) :
    Runs Q s (s.mendReceives q c tag addr data) :=
  ((copyBytes_kept _ _ _ _ _).trans (State.mendAdvanced_kept _ _ _)).runs hQ

/-! ### The part as a whole -/

theorem State.resumeLaneWork_runs (n : LaneId) : Runs Q s (s.resumeLaneWork n) :=
  ((State.openStep_runs hQ s n).trans (((State.serveFill_kept _ _).trans (State.startRefs_kept _ _)).runs hQ)).trans
    (State.laneEnd_runs hQ _ n)

theorem State.resumePart_runs : Runs Q s s.resumePart := by
  unfold State.resumePart
  split
  · exact Runs.foldl (fun t n => State.resumeLaneWork_runs hQ t n) _ _
  · exact .refl Q s

end

end Sys2Proof.Machine
end

