-- ==== Sys2Proof/Laws/Steps.lean ====
section
/-! SUPPORT. How an effect becomes a step: the outcomes of `attempt` and `always`, and what `finish` does: it touches the
registers and the attention message only, and nothing at all while the part runs or while a control read is in flight. -/

namespace Sys2Proof.Machine

/-- The two outcomes of a command with a guard: nothing changed, or its effect and then `finish`. -/
theorem attempt_next {f : State → Option State} {s t : State} (h : attempt f s = .next t) :
    (f s.began = none ∧ t = s) ∨ ∃ u, f s.began = some u ∧ t = u.finish := by
  unfold attempt at h
  split at h
  next e => exact .inl ⟨e, (Host.Outcome.next.inj h).symm⟩
  next u e => exact .inr ⟨u, e, (Host.Outcome.next.inj h).symm⟩

/-- A command whose guard holds has its effect. -/
theorem attempt_some {f : State → Option State} {s u : State} (h : f s.began = some u) :
    attempt f s = .next u.finish := by
  unfold attempt
  rw [h]

/-- A command whose guard fails changes nothing. -/
theorem attempt_none {f : State → Option State} {s : State} (h : f s.began = none) : attempt f s = .next s := by
  unfold attempt
  rw [h]

/-- The outcome of a command without a guard. -/
theorem always_next {f : State → State} {s t : State} (h : always f s = .next t) : t = (f s.began).finish :=
  (Host.Outcome.next.inj h).symm

/-! ### `driveRegs` and `raise` -/

section drive

variable (s : State) (r : Registers) (c : Attention)

@[simp] theorem State.driveRegs_regs : (s.driveRegs r).regs = r := by
  unfold State.driveRegs
  split <;> rfl


@[simp] theorem State.driveRegs_pending : (s.driveRegs r).pending = s.pending := by
  unfold State.driveRegs
  split <;> rfl

@[simp] theorem State.driveRegs_clock : (s.driveRegs r).clock = s.clock := by
  unfold State.driveRegs
  split <;> rfl

@[simp] theorem State.driveRegs_now : (s.driveRegs r).now = s.now := by
  unfold State.driveRegs
  split <;> rfl

@[simp] theorem State.driveRegs_nextTag : (s.driveRegs r).nextTag = s.nextTag := by
  unfold State.driveRegs
  split <;> rfl

@[simp] theorem State.driveRegs_msi : (s.driveRegs r).msi = s.msi := by
  unfold State.driveRegs
  split <;> rfl

@[simp] theorem State.driveRegs_dir : (s.driveRegs r).dir = s.dir := by
  unfold State.driveRegs
  split <;> rfl

@[simp] theorem State.driveRegs_strip : (s.driveRegs r).strip = s.strip := by
  unfold State.driveRegs
  split <;> rfl

@[simp] theorem State.driveRegs_ctl : (s.driveRegs r).ctl = s.ctl := by
  unfold State.driveRegs
  split <;> rfl

@[simp] theorem State.driveRegs_arbiter : (s.driveRegs r).arbiter = s.arbiter := by
  unfold State.driveRegs
  split <;> rfl

@[simp] theorem State.driveRegs_ctxs : (s.driveRegs r).ctxs = s.ctxs := by
  unfold State.driveRegs
  split <;> rfl

@[simp] theorem State.driveRegs_board : (s.driveRegs r).board = s.board := by
  unfold State.driveRegs
  split <;> rfl

@[simp] theorem State.driveRegs_lanes : (s.driveRegs r).lanes = s.lanes := by
  unfold State.driveRegs
  split <;> rfl

@[simp] theorem State.driveRegs_links : (s.driveRegs r).links = s.links := by
  unfold State.driveRegs
  split <;> rfl

@[simp] theorem State.driveRegs_votes : (s.driveRegs r).votes = s.votes := by
  unfold State.driveRegs
  split <;> rfl

@[simp] theorem State.driveRegs_mender : (s.driveRegs r).mender = s.mender := by
  unfold State.driveRegs
  split <;> rfl

@[simp] theorem State.driveRegs_trips : (s.driveRegs r).trips = s.trips := by
  unfold State.driveRegs
  split <;> rfl

@[simp] theorem State.driveRegs_evaluations : (s.driveRegs r).evaluations = s.evaluations := by
  unfold State.driveRegs
  split <;> rfl

/-- A message is sent exactly when the line goes from inactive to active with messages enabled (R158). -/
theorem State.driveRegs_out :
    (s.driveRegs r).out = if r.line && !s.regs.line && s.msi then s.out ++ [.message] else s.out := by
  unfold State.driveRegs
  split <;> rfl

@[simp] theorem State.raise_regs : (s.raise c).regs = { s.regs with attention := s.regs.attention ||| c.bit } :=
  s.driveRegs_regs _

@[simp] theorem State.raise_pending : (s.raise c).pending = s.pending := s.driveRegs_pending _

@[simp] theorem State.raise_clock : (s.raise c).clock = s.clock := s.driveRegs_clock _

@[simp] theorem State.raise_now : (s.raise c).now = s.now := s.driveRegs_now _

@[simp] theorem State.raise_nextTag : (s.raise c).nextTag = s.nextTag := s.driveRegs_nextTag _

@[simp] theorem State.raise_msi : (s.raise c).msi = s.msi := s.driveRegs_msi _

@[simp] theorem State.raise_dir : (s.raise c).dir = s.dir := s.driveRegs_dir _

@[simp] theorem State.raise_strip : (s.raise c).strip = s.strip := s.driveRegs_strip _

@[simp] theorem State.raise_ctl : (s.raise c).ctl = s.ctl := s.driveRegs_ctl _

@[simp] theorem State.raise_arbiter : (s.raise c).arbiter = s.arbiter := s.driveRegs_arbiter _

@[simp] theorem State.raise_ctxs : (s.raise c).ctxs = s.ctxs := s.driveRegs_ctxs _

@[simp] theorem State.raise_board : (s.raise c).board = s.board := s.driveRegs_board _

@[simp] theorem State.raise_lanes : (s.raise c).lanes = s.lanes := s.driveRegs_lanes _

@[simp] theorem State.raise_links : (s.raise c).links = s.links := s.driveRegs_links _

@[simp] theorem State.raise_votes : (s.raise c).votes = s.votes := s.driveRegs_votes _

@[simp] theorem State.raise_mender : (s.raise c).mender = s.mender := s.driveRegs_mender _

@[simp] theorem State.raise_trips : (s.raise c).trips = s.trips := s.driveRegs_trips _

@[simp] theorem State.raise_evaluations : (s.raise c).evaluations = s.evaluations := s.driveRegs_evaluations _

@[simp] theorem State.lane_raise (n : LaneId) : (s.raise c).lane n = s.lane n := State.lane_congr (s.raise_lanes c) n

@[simp] theorem State.lane_driveRegs (n : LaneId) : (s.driveRegs r).lane n = s.lane n :=
  State.lane_congr (s.driveRegs_lanes r) n

end drive

/-! ### `finish` -/

section finish

variable (s : State)

/-- What is left in flight does not depend on the registers. -/
theorem State.idle_congr {s t : State} (hc : t.ctxs = s.ctxs) (hm : t.mender = s.mender) (hl : t.lanes = s.lanes)
    (hr : t.ctl = s.ctl) : t.idle = s.idle := by
  unfold State.idle
  rw [hc, hm, hl, hr]

@[simp] theorem State.idle_setRegs (r : Registers) : (s.setRegs r).idle = s.idle := rfl

@[simp] theorem State.idle_raise (c : Attention) : (s.raise c).idle = s.idle :=
  State.idle_congr (s.raise_ctxs c) (s.raise_mender c) (s.raise_lanes c) (s.raise_ctl c)

/-- A control read in flight keeps the part busy. -/
theorem State.idle_of_ctl (h : s.ctl ≠ []) : s.idle = false := by
  unfold State.idle
  cases hc : s.ctl with
  | nil => exact absurd hc h
  | cons a l => simp

@[simp] theorem State.finish_pending : s.finish.pending = s.pending := by
  unfold State.finish
  dsimp only
  split <;> split <;> simp

@[simp] theorem State.finish_clock : s.finish.clock = s.clock := by
  unfold State.finish
  dsimp only
  split <;> split <;> simp

@[simp] theorem State.finish_now : s.finish.now = s.now := by
  unfold State.finish
  dsimp only
  split <;> split <;> simp

@[simp] theorem State.finish_nextTag : s.finish.nextTag = s.nextTag := by
  unfold State.finish
  dsimp only
  split <;> split <;> simp

@[simp] theorem State.finish_msi : s.finish.msi = s.msi := by
  unfold State.finish
  dsimp only
  split <;> split <;> simp

@[simp] theorem State.finish_dir : s.finish.dir = s.dir := by
  unfold State.finish
  dsimp only
  split <;> split <;> simp

@[simp] theorem State.finish_strip : s.finish.strip = s.strip := by
  unfold State.finish
  dsimp only
  split <;> split <;> simp

@[simp] theorem State.finish_ctl : s.finish.ctl = s.ctl := by
  unfold State.finish
  dsimp only
  split <;> split <;> simp

@[simp] theorem State.finish_arbiter : s.finish.arbiter = s.arbiter := by
  unfold State.finish
  dsimp only
  split <;> split <;> simp

@[simp] theorem State.finish_ctxs : s.finish.ctxs = s.ctxs := by
  unfold State.finish
  dsimp only
  split <;> split <;> simp

@[simp] theorem State.finish_board : s.finish.board = s.board := by
  unfold State.finish
  dsimp only
  split <;> split <;> simp

@[simp] theorem State.finish_lanes : s.finish.lanes = s.lanes := by
  unfold State.finish
  dsimp only
  split <;> split <;> simp

@[simp] theorem State.finish_links : s.finish.links = s.links := by
  unfold State.finish
  dsimp only
  split <;> split <;> simp

@[simp] theorem State.finish_votes : s.finish.votes = s.votes := by
  unfold State.finish
  dsimp only
  split <;> split <;> simp

@[simp] theorem State.finish_mender : s.finish.mender = s.mender := by
  unfold State.finish
  dsimp only
  split <;> split <;> simp

@[simp] theorem State.finish_trips : s.finish.trips = s.trips := by
  unfold State.finish
  dsimp only
  split <;> split <;> simp

@[simp] theorem State.finish_evaluations : s.finish.evaluations = s.evaluations := by
  unfold State.finish
  dsimp only
  split <;> split <;> simp

@[simp] theorem State.lane_finish (n : LaneId) : s.finish.lane n = s.lane n := State.lane_congr s.finish_lanes n

@[simp] theorem State.finish_idle : s.finish.idle = s.idle :=
  State.idle_congr s.finish_ctxs s.finish_mender s.finish_lanes s.finish_ctl

/-- Nothing is left to do while the part runs. -/
theorem State.finish_of_running (h : s.running = true) : s.finish = s := by
  unfold State.running at h
  unfold State.finish
  cases hq : s.regs.quiesce <;> cases he : s.regs.enable <;> simp_all

/-- Nothing is left to do while something is in flight. -/
theorem State.finish_of_busy (h : s.idle = false) : s.finish = s := by
  unfold State.finish
  simp [h]

/-- Nothing is left to do while a control read is in flight. -/
theorem State.finish_of_ctl (h : s.ctl ≠ []) : s.finish = s := s.finish_of_busy (s.idle_of_ctl h)

/-- The writes issued so far stand, and at most the message of the QUIESCED cause is added. -/
theorem State.finish_out : s.out <+: s.finish.out := by
  unfold State.finish
  dsimp only
  split <;> split <;> first | exact List.prefix_refl _ | skip
  all_goals
    simp only [State.setRegs_out, State.raise, State.driveRegs_out]
    split
    · exact List.prefix_append _ _
    · exact List.prefix_refl _

/-- After `finish`, STATUS has followed CONTROL. -/
theorem State.finish_settled : s.finish.Settled := by
  unfold State.Settled
  rw [State.finish_idle]
  unfold State.finish
  cases hi : s.idle <;> cases hq : s.regs.quiesce <;> cases hd : s.regs.quiesced <;> cases he : s.regs.enable <;>
    cases hn : s.regs.enabled <;> simp_all

/-- In a state where STATUS has followed CONTROL there is nothing left to do. -/
theorem State.finish_of_settled (h : s.Settled) : s.finish = s := by
  unfold State.Settled at h
  unfold State.finish
  cases hi : s.idle <;> cases hq : s.regs.quiesce <;> cases hd : s.regs.quiesced <;> cases he : s.regs.enable <;>
    cases hn : s.regs.enabled <;> simp_all

end finish

end Sys2Proof.Machine
end

