-- ==== Sys2Proof/WellFormed.lean ====
section
/-! DEFINITION. Which commands are well formed: the data of a completion has the length of the record its row reads
(R166), and an unknown command code lies outside 1 to 5 (R40). The machine gives every command a meaning, the ill-formed
ones too: a completion whose length does not match its request is an error status (R83), so it acts as the FAIL row
does. -/

namespace Sys2Proof

/-- The data of a part of a stripe or donor read: at least one byte and at most one request (R81, R82). -/
def partData (data : List Byte) : Bool :=
  0 < data.length && data.length ≤ Config.requestBytes

/-- A body request of a reference list carries whole check values, one at least, in 512 bytes or less (R7). -/
def bodyData (data : List Byte) : Bool :=
  partData data && data.length % 4 = 0

/-- The well-formed commands. -/
def Instr.wf : Instr → Bool
  | .directoryHeaderReadComplete _ data => data.length = 64
  | .sheetHeaderReadComplete _ data => data.length = 64
  | .descriptorReadComplete _ data => data.length = 96
  | .refHeaderArrival _ data => data.length = 16
  | .tripEntryReadComplete _ data => data.length = 16
  | .refBodyComplete _ data => bodyData data
  | .fetchCompletion _ _ data => partData data
  | .mendCompletion _ _ data => partData data
  | .unknownCommand _ _ code => code.toNat = 0 || 5 < code.toNat
  | .hardReset | .softReset | .enableSet | .enableClear | .quiesceSet | .quiesceClear | .tripReload => true
  | .tripReloadLatchedStart | .dirBaseWrite _ _ | .wake _ | .latchedWakeServe _ | .recallWrite _ => true
  | .attentionWrite _ | .attentionMaskWrite _ | .registerWriteIgnored _ _ => true
  | .directoryHeaderReadFail _ | .sequenceUnchanged _ | .openReel _ _ _ | .pauseReel _ _ => true
  | .resumeReel _ _ | .closeReel _ _ | .abortReel _ _ | .laneEntryReadFail _ | .sheetHeaderReadFail _ => true
  | .fillReadComplete _ _ | .fillReadFail _ | .takeBegin _ | .descriptorReadFail _ => true
  | .reservationGrant _ | .refListReadFail _ | .paceUnderflow _ | .pollExpiry _ | .starveMsTick _ => true
  | .checkIssue _ | .pairedIssue _ | .arbiterGrant _ | .fetchStart _ | .fetchRequestFail _ => true
  | .mendStart | .mendRequestFail _ | .closeBegin _ | .findingDispose _ | .stripReadComplete _ _ => true
  | .stripReadFail _ | .tripEntryReadFail _ | .msiEnableChange _ => true

end Sys2Proof
end

