-- ==== Sys2Proof/Tests/Slice0.lean ====
section
/-! SUPPORT. The model's own tests: an ill-formed command for each check of WellFormed, the manual's worked examples, and
for each statement with hypotheses a state and operands that meet them, at a boundary of each clause's range. -/

namespace Sys2Proof.Tests

-- One theorem at a time: each waits for the kernel, and a hundred that wait together exhaust the stack space.
set_option Elab.async false

open Sys2Proof Sys2Proof.Machine

/-! ### Builders -/

/-- `n` bytes of 0. -/
def zeros (n : Nat) : List Byte := List.replicate n 0

/-- Settings with 4 KiB stripes and a sixteen-slot ring. -/
def settings : Settings := { Settings.reset with
  exponent := 12, ringLog := 4, ringBase := 0x10000#64, pollInterval := 1, avgSamples := 4 }

/-- An open lane with an empty window. -/
def laneIn (st : LaneState) : Lane := { Lane.reset with
  state := st, cause := .noCause, sheet := 0x2000#64, settings := settings }

/-- A frame of `n` stripes of 4 KiB, none unreadable. -/
def frameOf (pos : Word) (n : Nat) : Frame where
  pos := pos
  number := 100
  kind := .normal
  length := 4096 * n
  n := n
  buffer := 0x100000#64
  refAddr := 0
  mendAddr := 0
  recordAddr := 0
  ranges := []
  stripes := List.replicate n (Stripe.fresh false)
  ref := .absent
  reservation := none
  refGeometry := false
  refUnreadable := false
  recordSkipped := false
  unpaired := false
  cursor := 0
  pairing := .solo .unlinked

/-- A stripe with that verdict. -/
def settled (v : Verdict) : Stripe := ⟨none, v, some 1, none, none⟩

/-- The part enabled on a validated directory with 64 free places on the strip. -/
def on : State := { State.reset with
  regs := { Registers.reset with enable := true, enabled := true, ready := true, dirLo := 0x1000#32 }
  dir := { Directory.reset with stripBase := 0x8000#64, stripCapacity := 64 }
  strip := { FindingsUnit.reset with room := 64 } }

/-- The part enabled, with lane 2 as given. -/
def onLane (l : Lane) : State := on.setLane 2 l

/-- A control read that has been sent, under tag 0. -/
def sent (kind : CtlKind) (len attempt : Nat) : CtlRead := ⟨0, kind, 0, len, attempt, true, 0, 0, false⟩

/-- The state with that read outstanding. -/
def reading (s : State) (r : CtlRead) : State := { s with ctl := [r], nextTag := 1 }

/-- The part quiesced, with work in flight left or not as the rest of the state says. -/
def quiesced (s : State) : State := { s with regs := { s.regs with quiesce := true, quiesced := true } }

/-- The part frozen. -/
def frozen (s : State) : State := { s with regs := { s.regs with enable := false, enabled := false } }

/-- The links of all four pairs formed, their queues as given. -/
def linkedWith (s : State) (q : List PairItem) : State := { s with links := Vector.replicate 4 ⟨true, q⟩ }

/-- A board entry of lane 2. -/
def entryOf (pos : Word) (i : Nat) (st : EntryState) : Entry :=
  ⟨2, pos, i, 0, 4096, .check, none, none, none, false, st, none⟩

/-- A stream of one request, tag 0, of 8 bytes. -/
def stream8 : Stream := (Stream.start 0 8).send 0 0

/-- A stream of two requests of 512 bytes, both outstanding. -/
def twoRequests : Stream := ((Stream.start 0 1024).send 0 0).send 1 0

/-- A sheet header with those options, stripe exponent and ring exponent. -/
def sheetOf (options log ring : Byte) : List Byte :=
  [options, 0, 0, 0, log, ring, 0, 4] ++ leBytes 8 0x10000 ++ zeros 48

/-- A frame descriptor of that length and range count, its first range slot as given. -/
def descriptorOf (length ranges start count : Nat) : List Byte :=
  leBytes 4 100 ++ leBytes 4 length ++ leBytes 8 0x100000 ++ zeros 24 ++ leBytes 8 ranges ++ leBytes 4 start ++
    leBytes 4 count ++ zeros 40

/-! ### Well-formed commands -/

theorem test_wf_directoryHeader : (Instr.directoryHeaderReadComplete 0 (zeros 63)).wf = false := by decide +kernel
theorem test_wf_sheetHeader : (Instr.sheetHeaderReadComplete 0 (zeros 65)).wf = false := by decide +kernel
theorem test_wf_descriptor : (Instr.descriptorReadComplete 0 (zeros 95)).wf = false := by decide +kernel
theorem test_wf_refHeader : (Instr.refHeaderArrival 0 (zeros 15)).wf = false := by decide +kernel
theorem test_wf_tripEntry : (Instr.tripEntryReadComplete 0 (zeros 17)).wf = false := by decide +kernel
theorem test_wf_refBody : (Instr.refBodyComplete 0 (zeros 6)).wf = false ∧
    (Instr.refBodyComplete 0 []).wf = false ∧ (Instr.refBodyComplete 0 (zeros 516)).wf = false := by decide +kernel
theorem test_wf_fetch : (Instr.fetchCompletion 0 0 []).wf = false ∧
    (Instr.fetchCompletion 0 0 (zeros 513)).wf = false := by decide +kernel
theorem test_wf_mend : (Instr.mendCompletion 0 0 []).wf = false ∧
    (Instr.mendCompletion 0 0 (zeros 513)).wf = false := by decide +kernel
theorem test_wf_unknownCommand : (Instr.unknownCommand 0 0 1).wf = false ∧ (Instr.unknownCommand 0 0 5).wf = false ∧
    (Instr.unknownCommand 0 0 0).wf = true ∧ (Instr.unknownCommand 0 0 6).wf = true := by decide +kernel

/-- The table gives its rows no bits. -/
theorem test_decode_no_row_has_bits : decodeTableWord 32 0x4D530802 = none := by decide +kernel

/-- A lane entry written out from R166: SHEET_ADDRESS 0x12300, COMMAND 1, COMMAND_SEQ 0x0201. -/
def laneEntryBytes (command : Byte) : List Byte :=
  [0x00, 0x23, 0x01, 0, 0, 0, 0, 0, command, 0, 0, 0, 0x01, 0x02, 0, 0] ++ zeros 16

theorem test_entry_open : laneEntryArrival 7 (laneEntryBytes 1) 0 = .openReel 7 0x201 0x12300 ∧
    laneEntryArrival 7 (laneEntryBytes 1) 0x201 = .sequenceUnchanged 7 := by decide +kernel
theorem test_entry_codes : laneEntryArrival 7 (laneEntryBytes 5) 0 = .abortReel 7 0x201 ∧
    laneEntryArrival 7 (laneEntryBytes 6) 0 = .unknownCommand 7 0x201 6 ∧
    laneEntryArrival 7 (zeros 31) 0 = .laneEntryReadFail 7 := by decide +kernel

/-! ### The manual's worked examples -/

/-- The published check value of CRC-32C over the digits 1 to 9, which R5's register steps give. -/
theorem test_crc_of_nine_digits :
    crcValue [0x31, 0x32, 0x33, 0x34, 0x35, 0x36, 0x37, 0x38, 0x39] = 0xE3069283#32 := by decide +kernel

/-- Chapter 1: the geometry of a 4K scan frame. -/
theorem test_geometry_of_a_scan_frame :
    stripeCount 20 50995200 = 49 ∧ stripeLen 20 50995200 48 = 663552 ∧ stripeLen 20 50995200 47 = 1048576 ∧
      effectiveRange 50995200 (20000000, 3000000) = some ⟨20000000, 23000000⟩ ∧
      effectiveRange 50995200 (60000000, 4096) = none ∧
      ([18, 19, 20, 21, 22].map fun i => stripeUnreadable 20 50995200 i [⟨20000000, 23000000⟩]) =
        [false, true, true, true, false] := by decide +kernel

/-- Chapter 1: one stripe on two lanes, with a reference and without. -/
theorem test_one_stripe_on_two_lanes :
    let v : SideOutcome := .computed 0x5A11C0DE#32
    judge (some 0x5A11C0DE#32) v (some .unreadable) = .clean ∧
      judge (some 0x5A11C0DE#32) .unreadable (some v) = .mendable ∧
      judge none .unreadable (some v) = .unreadable ∧ judge none v (some .unreadable) = .unverified := by decide +kernel

/-- Chapter 3: the four recalls against DRAIN = 131,080, on lane 2. -/
theorem test_recall_positions :
    (([9, 65530, 12, 30] : List Nat).map fun v =>
      ((recallPosition (natWord (2 * 2 ^ 29 + v)) 131080).toNat, recallBefore (natWord (2 * 2 ^ 29 + v)) 131080)) =
        [(131081, false), (131066, true), (131084, false), (131102, false)] ∧
      recallLane (natWord (2 * 2 ^ 29 + 9)) = 2 := by decide +kernel

/-- Chapter 4: with F = 4 the lengthened periods are those of g = 4, 8, 12 and 16. -/
theorem test_lengthened_periods :
    ((List.range 16).map fun i => lengthened (i + 1) 4) =
      [false, false, false, true, false, false, false, true, false, false, false, true, false, false, false, true] := by
  decide +kernel

/-- Chapter 5: a stripe 64 bytes past a boundary is cut into 448 bytes, then 512 at a time. -/
theorem test_first_requests_of_a_fetch :
    let t := (((Stream.start 0x4020000040#64 1048576).send 0 0).send 1 0)
    (t.outstanding.map fun r => (r.off, r.len)) = [(0, 448), (448, 512)] := by decide +kernel

/-- R128: the four runs of its example. -/
theorem test_runs_of_eight_stripes :
    let t := fun why : TransitReason => (⟨none, .transit, none, none, some why⟩ : Stripe)
    ((runsFrom 0 none [settled .clean, settled .unreadable, settled .unreadable, t .busFailed, t .transient,
      settled .clean, settled .mended, settled .mended]).map fun r => (r.first, r.count, r.stripe.verdict)) =
        [(1, 2, .unreadable), (3, 1, .transit), (4, 1, .transit), (6, 2, .mended)] := by decide +kernel

/-- Chapter 9: the run of score updates, b being 0, 1, 0, 40 and 0 of 128. -/
theorem test_run_of_score_updates :
    let c : Settings := { settings with window := 200000, quiet := 1000 }
    let scores := ([0, 1, 0, 40, 0] : List Nat).foldl
      (fun l b => l ++ [nextScore c (l.getLastD 0) (density b 128)]) []
    scores = [0, 1953, 1465, 312500, 0] := by decide +kernel

/-- Chapter 8: the close of the geometry frame scores 20,408. -/
theorem test_score_of_the_geometry_frame :
    nextScore { settings with window := 200000, quiet := 1000 } 0 (density 4 49) = 20408 := by decide +kernel

/-- Chapter 2: the marks a lane with DRAIN 1 and FILL seen 14 accepts and refuses (17 and 18, and 13 going back). -/
theorem test_fill_marks :
    let s := reading (onLane { laneIn .active with drain := 1, taken := 5, fillSeen := 14 }) (sent (.fill 2) 4 1)
    let fate := fun v : Word => match exec (.fillReadComplete 0 v) s with
      | .next t => ((t.lane 2).state, (t.lane 2).cause, (t.lane 2).fillSeen)
      | .fault _ => (.closed, .noCause, 0)
      | .refused _ => (.closed, .noCause, 0)
    fate 17 = (.active, .noCause, 17) ∧ fate 18 = (.faulted, .markInvalid, 14) ∧ fate 13 = (.faulted, .markInvalid, 14) := by
  decide +kernel

/-! ### States that meet the hypotheses of the statements -/

/-- Lane 2 ACTIVE with two frames, entries of both on the board and two reads waiting, and a poll expiry queued. -/
def busy : State := { onLane { laneIn .active with
    drain := 1, taken := 3, fillSeen := 3, window := [frameOf 1 2, frameOf 2 2] } with
  pending := [.pollExpiry 2]
  now := 1
  nextTag := 2
  board := [entryOf 1 0 .queued, entryOf 2 0 .fetching]
  ctl := [⟨0, .stripRead, 0, 4, 1, false, 0, 0, false⟩, ⟨1, .fill 2, 0, 4, 1, false, 1, 0, false⟩] }

theorem witness_StepRunsFrontCommand :
    ({ on with pending := [.mendStart, .hardReset] } : State).pending = .mendStart :: [.hardReset] := rfl

/-- A control read, a context's request and the mend engine's, all sent at clock 0. -/
def waitingAt (clock : Nat) : State := { (reading on (sent .stripRead 4 1)).setCtx 3 (some ⟨2, 1, 0, stream8⟩) with
  clock := clock
  mender := ⟨[], .copying ⟨1, stream8, []⟩⟩ }

theorem witness_IdleStepTicksPaceClock :
    (waitingAt 49999).pending = [] ∧
    (∀ r ∈ (waitingAt 49999).ctl, r.sent = true ∧ 50000 ≤ (waitingAt 49999).clock + 1 - r.sentAt) ∧
    (∀ r ∈ stream8.outstanding, 50000 ≤ (waitingAt 49999).clock + 1 - r.sentAt) ∧
    (waitingAt 49999).ctx 3 = some ⟨2, 1, 0, stream8⟩ ∧
    (∀ r ∈ (waitingAt 49999).mender.engine.outstanding, 50000 ≤ (waitingAt 49999).clock + 1 - r.sentAt) ∧
    (∀ r ∈ (waitingAt 49998).ctl, (waitingAt 49998).clock + 1 - r.sentAt < 50000) ∧
    (∀ c : CtxId, ∀ r ∈ (waitingAt 49998).ctxOutstanding c, (waitingAt 49998).clock + 1 - r.sentAt < 50000) ∧
    (∀ r ∈ (waitingAt 49998).mender.engine.outstanding, (waitingAt 49998).clock + 1 - r.sentAt < 50000) := by
  decide +kernel

/-- The counters of lane 2 at the two ends of their ranges. -/
theorem witness_IdleStepTicksPaceClock_counters :
    (∀ c ∈ [0, 1], ∀ st ∈ [LaneState.starved, .active, .paused],
      let s := onLane { laneIn st with
        settings := { settings with paceReload := 3 }
        pacing := { Pacing.reset with count := c, poll := c + 1, starveSub := 998 + c } }
      s.paceRuns 2 = decide (st ≠ .paused) ∧ s.starveRuns 2 = decide (st = .starved) ∧
        (s.lane 2).pacing.count = c ∧ (1 < (s.lane 2).pacing.poll ↔ c = 1) ∧
        ((s.lane 2).pacing.starveSub + 1 < 1000 ↔ c = 0)) := by decide +kernel

theorem witness_StepKeepsRegistersAgreed : busy.Settled ∧ busy.RegistersAgree ∧ ∃ t, step busy = .next t :=
  ⟨by unfold State.Settled; decide +kernel, by constructor <;> decide +kernel, _, rfl⟩

theorem witness_StepKeepsBoardBounded : busy.BoardBounded ∧ ∃ t, step busy = .next t :=
  ⟨by unfold State.BoardBounded; decide +kernel, _, rfl⟩

theorem witness_StepKeepsLaneRanges : (∀ n, (busy.lane n).InRange) ∧ ∃ t, step busy = .next t :=
  ⟨by
    intro n
    refine ⟨⟨?_, ?_, ?_, ?_, ?_, ?_, ?_⟩, ⟨?_, ?_, ?_, ?_, ?_, ?_, ?_⟩, ?_, ?_, ?_, ?_⟩ <;> revert n <;> decide +kernel,
    _, rfl⟩

theorem witness_StepKeepsWindowInRing : (∀ n, (busy.lane n).WindowInRing) ∧ ∃ t, step busy = .next t :=
  ⟨by intro n; constructor <;> revert n <;> decide +kernel, _, rfl⟩

theorem witness_StepKeepsBoardBounded_places :
    busy.MendsBounded ∧ busy.StripBounded ∧ ∃ t, step busy = .next t :=
  ⟨by unfold State.MendsBounded; decide +kernel, by constructor <;> decide +kernel, _, rfl⟩

/-- A linked pair with a vote that waits and an entry that has a partner, a pace underflow next. -/
def twinned : State := { linkedWith (onLane { laneIn .active with window := [frameOf 0 1] }) [] with
  pending := [.paceUnderflow 2]
  votes := [⟨1, 0, 5, 0, 1, 0⟩]
  board := [{ entryOf 0 0 .queued with partner := some 5 }] }

theorem witness_StepKeepsBoardBounded_twins :
    busy.TwinsLinked ∧ (∃ t, step busy = .next t) ∧ twinned.TwinsLinked ∧ ∃ t, step twinned = .next t :=
  ⟨by constructor <;> decide +kernel, ⟨_, rfl⟩, by constructor <;> decide +kernel, _, rfl⟩

theorem witness_StepKeepsWindowInRing_reels : busy.ReelsInOrder ∧ ∃ t, step busy = .next t := by
  refine ⟨⟨?_, ?_, ?_, ?_, ?_, ?_⟩, _, rfl⟩ <;> intro n
  · refine ⟨⟨?_, ?_, ?_, ?_, ?_, ?_, ?_⟩, ⟨?_, ?_, ?_, ?_, ?_, ?_, ?_⟩, ?_, ?_, ?_, ?_⟩ <;> revert n <;> decide +kernel
  · constructor <;> revert n <;> decide +kernel
  · have unaborted : (busy.lane n).abort = none := by revert n; decide +kernel
    refine ⟨?_, ?_, ?_, fun a h => (by simp [unaborted] at h), ?_⟩ <;> revert n <;> decide +kernel
  · constructor <;> revert n <;> decide +kernel
  · unfold Lane.CountsInOrder; revert n; decide +kernel
  · have empty : (busy.lane n).withdraws = [] := by revert n; decide +kernel
    constructor <;> simp [empty]

theorem witness_StepKeepsReadsInOrder : busy.ReadsInOrder ∧ ∃ t, step busy = .next t :=
  ⟨by unfold State.ReadsInOrder; decide +kernel, _, rfl⟩

theorem witness_IssuedWritesStand : ∃ t, step { busy with out := [.message] } = .next t := ⟨_, rfl⟩

theorem witness_LateCompletionsAreDiscarded :
    answeredTag (.stripReadFail 0) = some 0 ∧ ¬ on.awaits 0 ∧ (∃ t, exec .hardReset busy = .next t) ∧
      ∃ t, exec .softReset busy = .next t := by
  refine ⟨rfl, ?_, ⟨_, rfl⟩, _, rfl⟩
  rintro (⟨r, h, _⟩ | ⟨c, f, h, _⟩ | ⟨r, h, _⟩)
  · cases h
  · have : ∀ c : CtxId, on.ctx c = none := by decide +kernel
    simp [this] at h
  · cases h

theorem witness_AttentionAndStatusFollow :
    let quiescing : State := { on with regs := { on.regs with quiesce := true } }
    let freezing : State := { on with regs := { on.regs with enable := false } }
    (quiescing.regs.quiesce = true ∧ quiescing.regs.quiesced = false ∧ quiescing.idle = true) ∧
    (freezing.regs.quiesce = false ∧ freezing.regs.enable = false ∧ freezing.idle = true) ∧
    on.running = true ∧ busy.idle = false := by decide +kernel

/-- An open lane with three frames and none untaken. -/
def threeFrames : Lane := { laneIn .active with taken := 3, fillSeen := 3, window := [frameOf 0 1, frameOf 1 1, frameOf 2 1] }

theorem witness_StatesAreWrittenAndFillsRead :
    let s := onLane threeFrames
    let effective := fun s : State => ((s.lane 2).state = .active ∧ (s.lane 2).abort = none) ∧
      (s.lane 2).window.length < 4 ∧ (s.lane 2).taken = (s.lane 2).fillSeen
    (effective s ∧ (∀ r ∈ s.ctl, r.kind ≠ .fill 2) ∧ s.running = true) ∧
    (effective (reading s (sent (.fill 2) 4 1)) ∧ effective (frozen s) ∧ (frozen s).running = false) ∧
    ¬ effective (onLane { threeFrames with window := frameOf 3 1 :: threeFrames.window }) := by decide +kernel

/-- In OPENING a FILL cause is effective once the DRAIN write is done, and a read not yet sent is dropped on leaving for
DRAINING alone. -/
theorem witness_StatesAreWrittenAndFillsRead_opening :
    let s := reading (onLane { laneIn .opening with opening := .fillRead }) { sent (.fill 2) 4 1 with sent := false }
    ((s.lane 2).state = .opening ∧ (s.lane 2).opening = .fillRead ∧ (s.lane 2).abort = none ∧
      (s.lane 2).taken = (s.lane 2).fillSeen) ∧ (∃ r ∈ s.ctl, r.kind = .fill 2 ∧ r.sent = false ∧ r.attempt = 1) ∧
    (s.enter 2 .active .noCause).ctl = s.ctl ∧ (s.enter 2 .draining .noCause).ctl = [] := by decide +kernel

theorem witness_EnableSetValidates :
    on.regs.enable = true ∧ (State.reset.regs.enable = false ∧ State.reset.regs.ready = false ∧ State.reset.ctl = []) ∧
    (∃ q ∈ (reading State.reset (sent .dirHeader 64 1)).ctl, q.kind = .dirHeader) ∧
    ((frozen (quiesced on)).regs.enable = false ∧ (frozen (quiesced on)).regs.ready = true ∧
      (frozen (quiesced on)).regs.quiesce = true) := by decide +kernel

/-- Lanes that wait for the part to run: for the header, for the DRAIN write, for a latched FILL, for a list read. -/
def resting : State := (((on.setLane 0 { laneIn .opening with opening := .headerDue }).setLane 1
  { laneIn .opening with opening := .drainDue }).setLane 2 { laneIn .starved with fillLatch := true }).setLane 3
    { laneIn .active with window := [{ frameOf 0 1 with ref := .granted, reservation := some [0] }] }

theorem witness_ResumedPartGoesOn :
    ((frozen resting).regs.enable = false ∧ (frozen resting).regs.ready = true ∧ (frozen resting).regs.quiesce = false) ∧
    ((quiesced resting).regs.enable = true ∧ (quiesced resting).regs.quiesce = true) ∧
    (∀ n : LaneId, ((frozen resting).lane n).abort = none ∧ ((frozen resting).lane n).state ≠ .draining) ∧
    (resting.lane 0).opening = .headerDue ∧ (resting.lane 1).opening = .drainDue ∧
    ((resting.lane 2).opening = .idle ∧ (resting.lane 2).fillLatch = true ∧ (resting.lane 2).state = .starved ∧
      resting.ctl = []) ∧
    ((resting.lane 3).opening = .idle ∧ (resting.lane 3).closes = true ∧
      ∃ f ∈ (resting.lane 3).window, f.kind = .normal ∧ f.ref = .granted) := by decide +kernel

theorem witness_FreezeAndQuiesceStopThePart :
    let read := fun s : State => reading s (sent .stripRead 4 1)
    (∀ s ∈ [on, read on, frozen on, quiesced on, frozen (quiesced on)],
      s.Settled ∧ s.RegistersAgree) ∧
    (on.regs.enable = true ∧ on.regs.quiesce = false ∧ on.idle = true) ∧ (read on).idle = false ∧
    (frozen on).regs.enable = false ∧ (quiesced on).regs.quiesce = true ∧
    ((frozen (quiesced on)).regs.quiesce = true ∧ (frozen (quiesced on)).regs.enable = false) := by
  refine ⟨?_, by decide +kernel⟩
  intro s hs
  simp only [List.mem_cons, List.not_mem_nil, or_false] at hs
  rcases hs with rfl | rfl | rfl | rfl | rfl <;>
    exact ⟨by unfold State.Settled; decide +kernel, by constructor <;> decide +kernel⟩

/-- Lane 2 FAULTED and not linked, while a stripe of the linked pair of lanes 4 and 5 waits for a place. -/
def faultedBeside : State := { onLane (laneIn .faulted) with
  links := (Vector.replicate 4 Link.reset).set 2 ⟨true, []⟩
  votes := [⟨2, 0, 5, 0, 1, 0⟩] }

theorem witness_StoppedPartBeginsNothing :
    (frozen on).regs.enable = false ∧ (quiesced on).regs.quiesce = true ∧
    (let s := faultedBeside
    (s.lane 2).state = .faulted ∧ (s.lane 2).abort = none ∧ (s.lane 2).opening = .idle ∧ s.linked 2 = false ∧
      s.votes ≠ [] ∧ ∀ v ∈ s.votes, (s.link v.pair).linked = true) ∧
    ∃ t, exec .quiesceSet faultedBeside = .next t :=
  ⟨by decide +kernel, by decide +kernel, by decide +kernel, _, rfl⟩

theorem witness_DirBaseWriteIsTaken :
    (State.reset.regs.enable = false ∧ State.reset.regs.enabled = false ∧
      ∀ n : LaneId, (State.reset.lane n).state = .closed) ∧ on.regs.enable = true := by decide +kernel

theorem witness_AttentionRegistersAreWritten : on.Settled := by unfold State.Settled; decide +kernel

theorem witness_ControlReadsBackAsWritten : (0x4#32).getLsbD 2 = true ∧ (0xB#32).getLsbD 2 = false := by decide

theorem witness_TripReloadStartsOrIsLatched :
    (on.regs.enable = true ∧ on.regs.ready = true ∧ on.regs.reloadBusy = false) ∧ State.reset.regs.enable = false ∧
    ({ on with dir := { on.dir with reloadLatch := true } } : State).dir.reloadLatch = true ∧
    on.dir.reloadLatch = false := by decide +kernel

/-- A reload that has every entry but those of `missing`. -/
def reloading (missing : List TripId) (attempt : Nat) : State :=
  { reading on (sent (.tripEntry 3) 16 attempt) with
    dir := { on.dir with reload := some (Vector.ofFn fun i =>
      if i ∈ missing then none else some ⟨false, 32, 0, 0, 0⟩) } }

theorem witness_TripEntriesAreStagedTogether :
    let r := sent (.tripEntry 3) 16 1
    (reloading [2, 3] 1).sentRead 0 = some r ∧ (reloading [3] 1).sentRead 0 = some r ∧
    r.kind = .tripEntry 3 ∧ r.discard = false ∧ (zeros 16).length = 16 ∧
    (∀ missing ∈ ([[2, 3], [3]] : List (List TripId)), ∃ j : TripId,
      ((reloading missing 1).dir.reload.map fun v =>
        (v.set 3 (some (readTripEntry (zeros 16))))[j.val]).isSome = true) ∧
    ((reloading [3] 1).dir.reload.map fun v =>
        (v.set 3 (some (readTripEntry (zeros 16)))).toList.all Option.isSome) = some true ∧
    ((reloading [2, 3] 1).dir.reload.map fun v =>
        (v.set 3 (some (readTripEntry (zeros 16)))).toList.all Option.isSome) = some false ∧
    (reloading [3] 2).sentRead 0 = some (sent (.tripEntry 3) 16 2) ∧ (sent (.tripEntry 3) 16 2).attempt ≠ 1 := by
  decide +kernel

/-- A directory header with that strip exponent. -/
def headerOf (log : Byte) : List Byte := leBytes 4 1 ++ [log, 0, 0, 0] ++ leBytes 8 0x8000 ++ zeros 48

theorem witness_DirectoryHeaderIsJudged :
    let r := sent .dirHeader 64 2
    (reading on r).sentRead r.tag = some r ∧ r.kind = .dirHeader ∧ r.attempt ≠ 1 ∧
    (∀ log ∈ ([5, 6, 16, 17] : List Byte), (headerOf log).length = 64 ∧ field (headerOf log) 0 4 = 1 ∧
      field (headerOf log) 4 1 = log.toNat ∧ (BitVec.ofNat 64 (field (headerOf log) 8 8) >>> 5) <<< 5 ≠ 0) := by
  decide +kernel

theorem witness_FailedReadIsMadeOnceMore :
    let r := sent (.descriptor 2) 96 1
    (reading on r).sentRead r.tag = some r ∧ r.attempt = 1 ∧ r.discard = false ∧
      CtlKind.isRef 2 r.kind = false := by decide +kernel

theorem witness_WakeIsServedOrLatched :
    on.Settled ∧
    (let asked := fun value : Word => ([0, 1, 2, 3, 4, 5, 6, 7] : List LaneId).filter fun n => value.getLsbD n.val
    asked 0x100#32 = [] ∧ asked 0x81#32 = [0, 7]) ∧
    (let s := onLane { laneIn .active with wakeLatch := true }
    (s.lane 2).wakeLatch = true ∧ s.servesWake 2 = true ∧ (frozen s).servesWake 2 = false ∧
      (s.lane 1).wakeLatch = false) :=
  ⟨by unfold State.Settled; decide +kernel, by decide +kernel, by decide +kernel⟩

/-- A lane entry read of lane 2 outstanding, the lane as given. -/
def commanding (l : Lane) : State := reading (onLane l) (sent (.laneEntry 2) 32 1)

theorem witness_UnchangedSequenceIsNotActedOn :
    (commanding (laneIn .active)).sentRead 0 = some (sent (.laneEntry 2) 32 1) ∧
    (0#32).toNat = 0 ∧ 5 < (6#32).toNat ∧
    (reading on (sent (.laneEntry 2) 32 2)).sentRead 0 = some (sent (.laneEntry 2) 32 2) := by decide +kernel

theorem witness_OpenEntersOpening :
    let s := commanding Lane.reset
    (s.sentRead 0 = some (sent (.laneEntry 2) 32 1) ∧ 1#32 ≠ (s.lane 2).lastSeq ∧ (s.lane 2).state = .closed) ∧
    ((0x100#64 >>> 8) <<< 8 ≠ 0#64 ∧ s.running = true ∧ (frozen s).running = false) ∧
    ((0xFF#64 >>> 8) <<< 8 = 0#64 ∧ (s.lane 2).abort = none ∧ (s.lane 2).closing = none ∧ s.linked 2 = false) := by
  decide +kernel

theorem witness_CommandsAnsweredWithoutChange :
    (∀ st ∈ [LaneState.closed, .opening, .active, .starved, .paused, .draining, .faulted],
      let s := commanding (laneIn st)
      s.sentRead 0 = some (sent (.laneEntry 2) 32 1) ∧ 1#32 ≠ (s.lane 2).lastSeq ∧ (s.lane 2).state = st ∧
        s.linked 2 = false) ∧
    (let s := linkedWith (reading on (sent (.laneEntry 3) 32 1)) []
    s.sentRead 0 = some (sent (.laneEntry 3) 32 1) ∧ s.linked 3 = true ∧ (3 : LaneId).val % 2 = 1) ∧
    (0#32).toNat = 0 ∧ 5 < (6#32).toNat := by decide +kernel

theorem witness_PauseAndResumeMoveTheLane :
    (∀ st ∈ [LaneState.active, .starved, .paused],
      let s := commanding (laneIn st)
      s.sentRead 0 = some (sent (.laneEntry 2) 32 1) ∧ 1#32 ≠ (s.lane 2).lastSeq ∧ (s.lane 2).state = st ∧
        (s.lane 2).abort = none ∧ s.linked 2 = false ∧ (s.lane 2).taken = (s.lane 2).fillSeen) ∧
    (∀ st ∈ [LaneState.starved, .draining],
      let s := linkedWith ((commanding (laneIn .active)).setLane 3 (laneIn st)) []
      s.linked 2 = true ∧ (s.lane (twin 2)).abort = none ∧ (s.lane (twin 2)).state = st) ∧
    (let s := commanding { threeFrames with state := .paused }
    (s.lane 2).window.length < 4 ∧ (s.lane 2).taken = (s.lane 2).fillSeen ∧ s.running = true ∧
      ∀ q ∈ s.ctl, q.kind ≠ .fill 2) := by decide +kernel

/-- Lanes 2 and 3 linked, lane 3 as given, a lane entry read of lane 2 outstanding. -/
def leading (l m : Lane) : State := linkedWith ((commanding l).setLane 3 m) []

theorem witness_PauseAndResumeMoveTheLane_linked :
    (∀ st ∈ [LaneState.paused, .draining],
      let s := leading (laneIn .paused) (laneIn st)
      s.sentRead 0 = some (sent (.laneEntry 2) 32 1) ∧ 1#32 ≠ (s.lane 2).lastSeq ∧ (s.lane 2).abort = none ∧
        (s.lane 2).state = .paused ∧ s.linked 2 = true ∧ (2 : LaneId).val % 2 = 0 ∧ (s.lane (twin 2)).state = st ∧
        (∀ k ∈ [2, twin 2], s.running = true ∧ (s.lane k).abort = none ∧ (s.lane k).window.length < 4 ∧
          (s.lane k).taken = (s.lane k).fillSeen ∧ ∀ q ∈ s.ctl, q.kind ≠ .fill k)) ∧
    (let s := leading (laneIn .active) (laneIn .opening)
    (s.lane 2).state = .active ∧ (s.lane (twin 2)).abort = none ∧ (s.lane (twin 2)).state = .opening) := by
  decide +kernel

theorem witness_CloseDrainsTheLane :
    (∀ st ∈ [LaneState.active, .starved, .paused],
      let s := commanding (laneIn st)
      s.sentRead 0 = some (sent (.laneEntry 2) 32 1) ∧ 1#32 ≠ (s.lane 2).lastSeq ∧ (s.lane 2).abort = none ∧
        s.linked 2 = false ∧ (s.lane 2).state = st ∧ (s.lane 2).window = [] ∧
        (∀ q ∈ s.otherReads 0, q.kind ≠ .descriptor 2) ∧ s.running = true ∧ (s.lane 2).closing = none ∧
        (s.lane 2).ending = none) ∧
    ((commanding threeFrames).lane 2).window ≠ [] ∧ (frozen (commanding (laneIn .active))).running = false := by
  decide +kernel

theorem witness_CloseDrainsTheLane_linked :
    (∀ st ∈ [LaneState.active, .starved, .paused, .opening],
      let s := leading (laneIn .active) (laneIn st)
      s.sentRead 0 = some (sent (.laneEntry 2) 32 1) ∧ 1#32 ≠ (s.lane 2).lastSeq ∧ s.linked 2 = true ∧
        (2 : LaneId).val % 2 = 0 ∧ (s.lane 2).abort = none ∧ (s.lane (twin 2)).abort = none ∧
        (s.lane 2).state = .active ∧ (s.lane (twin 2)).state = st ∧ (s.lane 2).window.length ≤ 4 ∧
        (s.lane (twin 2)).window.length ≤ 4) ∧
    (let s : State := { commanding (laneIn .active) with evaluations := [(2, 3)] }
    s.linked 2 = false ∧ (∃ e ∈ s.evaluations, e.1 = 2) ∧ (s.lane 2).window = []) ∧
    (let s := commanding (laneIn .active)
    let w : Waiting := ⟨stallFinding 2 (laneIn .starved), .lane 2, 0⟩
    let u := s.setStrip { s.strip with waiting := [w] }
    ∃ x ∈ u.strip.waiting ++ u.strip.disposing.toList, x.submitter.block = .lane 2) := by decide +kernel

theorem witness_AbortEndsTheReel :
    (∀ l ∈ [threeFrames, laneIn .draining, { laneIn .opening with opening := .fillRead }],
      let s := commanding l
      s.sentRead 0 = some (sent (.laneEntry 2) 32 1) ∧ 1#32 ≠ (s.lane 2).lastSeq ∧ s.linked 2 = false ∧
        (s.lane 2).state ≠ .closed ∧ (s.lane 2).state ≠ .faulted ∧
        ¬ ((s.lane 2).state = .opening ∧ (s.lane 2).opening ≠ .fillRead) ∧ (s.lane 2).closing = none) ∧
    (∀ l ∈ [laneIn .faulted, { laneIn .opening with opening := .drainDue }],
      let s := commanding l
      s.sentRead 0 = some (sent (.laneEntry 2) 32 1) ∧
        ((s.lane 2).state = .faulted ∨ (s.lane 2).state = .opening ∧ (s.lane 2).opening ≠ .fillRead) ∧
        s.board = [] ∧ s.mender.queue = [] ∧ ∀ q ∈ s.ctl, CtlKind.ofReel 2 q.kind = false) ∧
    (let s : State := { commanding (laneIn .faulted) with evaluations := [(2, 3)] }
    s.sentRead 0 = some (sent (.laneEntry 2) 32 1) ∧ (∃ e ∈ s.evaluations, e.1 = 2) ∧
      (commanding (laneIn .faulted)).evaluations = []) ∧
    (let s : State := { commanding { laneIn .opening with opening := .headerRead } with
        ctl := [sent (.laneEntry 2) 32 1, { sent (.sheetHeader 2) 64 1 with tag := 1 }] }
    s.sentRead 0 = some (sent (.laneEntry 2) 32 1) ∧ ∃ q ∈ s.otherReads 0, CtlKind.ofReel 2 q.kind = true) := by
  decide +kernel

theorem witness_AbortEndsTheReel_linked :
    (∀ st ∈ [LaneState.active, .faulted],
      let s := leading (laneIn st) (laneIn .active)
      s.sentRead 0 = some (sent (.laneEntry 2) 32 1) ∧ 1#32 ≠ (s.lane 2).lastSeq ∧ (s.lane 2).state = st ∧
        s.linked 2 = true) ∧
    (let s := commanding (laneIn .active)
    (s.lane 2).window = [] ∧ (s.lane 2).closing = none ∧ s.running = true ∧ s.linked 2 = false ∧
      s.strip.waiting ++ s.strip.disposing.toList = [] ∧ s.evaluations = [] ∧
      ∀ q ∈ s.ctl, q.kind ≠ .fill 2 ∧ q.kind ≠ .descriptor 2) := by decide +kernel

/-- A sheet header read of lane `n` outstanding, the lane OPENING. -/
def headerComes (n : LaneId) (s : State) : State :=
  reading (s.setLane n { laneIn .opening with opening := .headerRead }) (sent (.sheetHeader n) 64 1)

theorem witness_ValidSheetOpensTheReel :
    ((∀ p ∈ ([(12, 4), (20, 12)] : List (Byte × Byte)), (readSheetHeader (sheetOf 0 p.1 p.2)).Legal 2) ∧
      (readSheetHeader (sheetOf 0x10 12 4)).Legal 3) ∧
    (let s := headerComes 2 on
    s.sentRead 0 = some (sent (.sheetHeader 2) 64 1) ∧ (sheetOf 0 12 4).length = 64 ∧
      (readSheetHeader (sheetOf 0 12 4)).options.twinFollow = false ∧ s.running = true ∧
      (∀ q ∈ s.ctl, q.kind ≠ .fill 2) ∧ (frozen s).running = false) ∧
    (let leads := { settings with options := ⟨false, false, false, true, false⟩ }
    let s := headerComes 3 (onLane { laneIn .active with settings := leads })
    let lead := s.lane (leader (pairOf 3))
    s.sentRead 0 = some (sent (.sheetHeader 3) 64 1) ∧
      (readSheetHeader (sheetOf 0x10 12 4)).options.twinFollow = true ∧ lead.state = .active ∧ lead.abort = none ∧
      lead.settings.options.twinLead = true ∧
      lead.settings.exponent = (readSheetHeader (sheetOf 0x10 12 4)).stripeLog ∧ s.linked 3 = false) ∧
    (let s := headerComes 3 on
    (s.lane (leader (pairOf 3))).state = .closed ∧ (s.lane 3).abort = none ∧ (s.lane 3).closing = none ∧
      (s.lane 3).faultDue = none ∧ (s.lane 3).state = .opening) := by
  refine ⟨⟨?_, ?_⟩, by decide +kernel⟩
  · intro p hp
    simp only [List.mem_cons, List.not_mem_nil, or_false] at hp
    rcases hp with rfl | rfl <;> constructor <;> decide +kernel
  · constructor <;> decide +kernel

/-- The sheet header of lane `n` comes while a FILL read of an earlier reel of it is in flight, tag 1. -/
def headerBeforeFill (n : LaneId) (s : State) : State :=
  { headerComes n s with
    nextTag := 2
    ctl := [sent (.sheetHeader n) 64 1, { sent (.fill n) 4 1 with tag := 1, discard := true }] }

theorem witness_ValidSheetOpensTheReel_fills :
    let leads := onLane { laneIn .active with settings := { settings with options := ⟨false, false, false, true, false⟩ } }
    (let s := headerBeforeFill 2 on
    s.sentRead 0 = some (sent (.sheetHeader 2) 64 1) ∧ s.running = true ∧ ∃ q ∈ s.otherReads 0, q.kind = .fill 2) ∧
    (let s := headerBeforeFill 3 leads
    s.sentRead 0 = some (sent (.sheetHeader 3) 64 1) ∧ s.running = true ∧ ∃ q ∈ s.otherReads 0, q.kind = .fill 3) ∧
    ∀ s ∈ [headerBeforeFill 3 leads, frozen (headerComes 3 leads)],
      let lead := s.lane (leader (pairOf 3))
      (s.running = false ∨ (frozen s).running = false) ∧ lead.state = .active ∧ lead.abort = none ∧
        lead.settings.options.twinLead = true ∧
        lead.settings.exponent = (readSheetHeader (sheetOf 0x10 12 4)).stripeLog ∧ s.linked 3 = false := by decide +kernel

/-- R96: a leader frame that an earlier link left SOLO MISSING is SOLO UNLINKED when the link forms again, with no flag (R99). -/
theorem test_link_forms_again :
    let leads := onLane { laneIn .active with
      settings := { settings with options := ⟨false, false, false, true, false⟩ }
      window := [{ frameOf 0 1 with pairing := .solo .missing, unpaired := true }] }
    (match exec (.sheetHeaderReadComplete 0 (sheetOf 0x10 12 4)) (headerComes 3 leads) with
      | .next t => (t.lane 2).window.map fun f => (f.pairing, f.unpaired)
      | .fault _ => []
      | .refused _ => []) = [(.solo .unlinked, false)] := by decide +kernel

/-- R24: the counts of a lane that waits before its DRAIN write are within the new reel's E. -/
theorem test_counts_go_with_the_sheet :
    (match exec (.sheetHeaderReadComplete 0 (sheetOf 0 12 4))
        ((frozen (headerComes 2 on)).setLane 2
          { laneIn .opening with opening := .headerRead, drain := 5, taken := 5, fillSeen := 90 }) with
      | .next t => ((t.lane 2).drain, (t.lane 2).taken, (t.lane 2).fillSeen, (t.lane 2).opening)
      | .fault _ => (1, 1, 1, .idle)
      | .refused _ => (1, 1, 1, .idle)) = (0, 0, 0, .drainDue) := by decide +kernel

/-- A read of lane 2 outstanding, the lane as given. -/
def laneReads (kind : CtlKind) (len attempt : Nat) (l : Lane) : State := reading (onLane l) (sent kind len attempt)

theorem witness_FaultConditionsFaultTheLane :
    (∀ log ∈ ([11, 21] : List Byte), ¬ (readSheetHeader (sheetOf 0 log 4)).Legal 2) ∧ (sheetOf 0 11 4).length = 64 ∧
    (let s := headerComes 2 on
    s.sentRead 0 = some (sent (.sheetHeader 2) 64 1) ∧ s.linked 2 = false ∧ (s.lane 2).abort = none ∧
      (s.lane 2).closing = none ∧ (s.lane 2).state ≠ .closed ∧ (s.lane 2).state ≠ .faulted) ∧
    (let s := laneReads (.fill 2) 4 1 { threeFrames with fillSeen := 10 }
    s.sentRead 0 = some (sent (.fill 2) 4 1) ∧ 2 ^ (s.lane 2).settings.ringLog < (17#32 - (s.lane 2).drain).toNat ∧
      2 ^ 31 < (9#32 - (s.lane 2).fillSeen).toNat) ∧
    (∀ k ∈ [CtlKind.sheetHeader 2, .fill 2, .descriptor 2],
      (laneReads k 64 2 threeFrames).sentRead 0 = some (sent k 64 2) ∧ (sent k 64 2).attempt ≠ 1) := by
  refine ⟨?_, by decide +kernel⟩
  intro log hl h
  simp only [List.mem_cons, List.not_mem_nil, or_false] at hl
  have := h.stripe
  rcases hl with rfl | rfl <;> revert this <;> decide +kernel

theorem witness_FaultConditionsFaultTheLane_linked :
    (let s := linkedWith (laneReads (.fill 2) 4 2 threeFrames) []
    s.sentRead 0 = some (sent (.fill 2) 4 2) ∧ (sent (.fill 2) 4 2).discard = false ∧ (s.lane 2).abort = none ∧
      (s.lane 2).closing = none ∧ (s.lane 2).faultDue = none ∧ s.linked 2 = true) ∧
    (let s := laneReads (.fill 2) 4 2 { threeFrames with closing := some [], faultDue := some .markInvalid }
    (s.lane 2).closing ≠ none ∧ (s.lane 2).abort = none ∧ (s.lane 2).state = .active) := by decide +kernel

theorem witness_FillValueMovesTheLane :
    (∀ l ∈ [laneIn .closed, laneIn .faulted, { laneIn .opening with drainOnFill := true }, laneIn .opening,
        laneIn .active, threeFrames, { laneIn .starved with cause := .noFrames },
        { laneIn .starved with cause := .twinWait }, laneIn .paused, laneIn .draining],
      let s := laneReads (.fill 2) 4 1 l
      s.sentRead 0 = some (sent (.fill 2) 4 1) ∧ s.linked 2 = false ∧ (s.lane 2).abort = none ∧
        ((s.lane 2).fillSeen - (s.lane 2).drain).toNat ≤ 2 ^ (s.lane 2).settings.ringLog ∧
        (16#32 - (s.lane 2).drain).toNat ≤ 2 ^ (s.lane 2).settings.ringLog ∧
        (16#32 - (s.lane 2).fillSeen).toNat ≤ 2 ^ 31 ∧ 16#32 ≠ (s.lane 2).taken ∧
        (s.lane 2).fillSeen = (s.lane 2).taken) := by decide +kernel

/-- R28: a FILL value is taken in by a DRAINING lane whose end waits for its finding, and R25 applied to it. -/
theorem test_fill_value_during_an_end :
    ([16, 17].map fun v : Word =>
      match exec (.fillReadComplete 0 v)
          (laneReads (.fill 2) 4 1 { laneIn .draining with ending := some .closedByCommand }) with
        | .next t => some ((t.lane 2).fillSeen, (t.lane 2).state, (t.lane 2).ending)
        | .fault _ => none
        | .refused _ => none) =
      [some (16, .draining, some .closedByCommand), some (0, .faulted, none)] := by decide +kernel

theorem witness_FillValueMovesTheLane_linked :
    (∀ drain pause : Bool, ∀ st ∈ [LaneState.active, .paused],
      let l := { laneIn .opening with opening := .fillRead, drainOnFill := drain, pauseOnFill := pause }
      let s := linkedWith ((laneReads (.fill 2) 4 1 l).setLane 3 (laneIn st)) []
      s.sentRead 0 = some (sent (.fill 2) 4 1) ∧ s.linked 2 = true ∧ (s.lane 2).abort = none ∧
        (s.lane 2).state = .opening ∧ (s.lane 2).drainOnFill = drain ∧ (s.lane 2).pauseOnFill = pause ∧
        (s.lane (twin 2)).state = st ∧ (16#32 - (s.lane 2).drain).toNat ≤ 2 ^ (s.lane 2).settings.ringLog ∧
        (16#32 - (s.lane 2).fillSeen).toNat ≤ 2 ^ 31 ∧ 16#32 ≠ (s.lane 2).taken ∧ (s.lane 2).fillSeen = (s.lane 2).taken ∧
        (s.lane 2).window = []) := by decide +kernel

/-- Past OPENING: a lane of a linked pair in each state, with a window and without, its twin without a head, or with a frame
that it has not taken. -/
theorem witness_FillValueMovesTheLane_running :
    (∀ l ∈ [laneIn .active, threeFrames, { laneIn .starved with cause := .noFrames },
        { laneIn .starved with cause := .twinWait, window := [{ frameOf 0 1 with pairing := .pending }] },
        laneIn .paused, laneIn .draining],
      let s := linkedWith ((laneReads (.fill 2) 4 1 l).setLane 3 (laneIn .active)) []
      s.sentRead 0 = some (sent (.fill 2) 4 1) ∧ s.linked 2 = true ∧ (s.lane 2).abort = none ∧
        (s.lane 2).state = l.state ∧ (s.lane 2).cause = l.cause ∧ (s.lane 2).window = l.window ∧
        (s.lane (twin 2)).pairingHead = none ∧ (s.lane (twin 2)).state ≠ .draining ∧
        (16#32 - (s.lane 2).drain).toNat ≤ 2 ^ (s.lane 2).settings.ringLog ∧
        (16#32 - (s.lane 2).fillSeen).toNat ≤ 2 ^ 31 ∧ 16#32 ≠ (s.lane 2).taken ∧
        (s.lane 2).fillSeen = (s.lane 2).taken) ∧
    (let l := { laneIn .active with window := [{ frameOf 0 1 with pairing := .pending }], taken := 1, fillSeen := 1 }
    let s := linkedWith ((laneReads (.fill 2) 4 1 l).setLane 3 { laneIn .active with fillSeen := 1 }) []
    (s.lane 2).pairingHead ≠ none ∧ (s.lane 2).window ≠ [] ∧ (s.lane (twin 2)).taken ≠ (s.lane (twin 2)).fillSeen) := by
  decide +kernel

theorem witness_TakeReadsTheDescriptor :
    (∀ l ∈ [{ threeFrames with fillSeen := 4 }, { threeFrames with state := .starved, cause := .twinWait, fillSeen := 4 }],
      let s := onLane l
      ((s.lane 2).state = .active ∨ (s.lane 2).state = .starved ∧ (s.lane 2).cause = .twinWait) ∧
        (s.lane 2).abort = none ∧ (s.lane 2).window.length < 4 ∧ (s.lane 2).taken ≠ (s.lane 2).fillSeen ∧
        s.ctl = [] ∧ s.running = true ∧ s.linked 2 = false ∧ s.evaluations = []) ∧
    ((onLane threeFrames).lane 2).taken = ((onLane threeFrames).lane 2).fillSeen ∧
    ∃ e ∈ ({ onLane threeFrames with evaluations := [(2, 3)] } : State).evaluations, e.1 = 2 := by decide +kernel

theorem witness_DescriptorPlacesTheFrame :
    (let l : Lane := { laneIn .active with
      taken := 2, fillSeen := 3, window := [frameOf 0 1, frameOf 1 1], withdraws := [2] }
    let s := laneReads (.descriptor 2) 96 1 l
    s.sentRead 0 = some (sent (.descriptor 2) 96 1) ∧ (sent (.descriptor 2) 96 1).discard = false ∧
      s.linked 2 = false ∧ (s.lane 2).abort = none ∧ (∀ f ∈ (s.lane 2).window, f.pos ≠ (s.lane 2).taken) ∧
      (s.lane 2).taken ∈ (s.lane 2).withdraws ∧ (s.lane 2).taken + 1 = (s.lane 2).fillSeen ∧
      (s.lane 2).window.length < 3 ∧ s.running = true ∧ ∀ q ∈ s.ctl, q.kind ≠ .fill 2) ∧
    (∀ p ∈ ([(0, 0), (1, 4), (4096 * 4096, 0), (4096 * 4096 + 1, 0), (268435456, 0), (268435457, 0), (1, 5)] :
        List (Nat × Nat)),
      (descriptorOf p.1 p.2 0 1).length = 96 ∧ (readDescriptor (descriptorOf p.1 p.2 0 1)).length = p.1 ∧
        (readDescriptor (descriptorOf p.1 p.2 0 1)).rangeCount = p.2) := by decide +kernel

/-- Lane 2 of a linked pair takes its frame at position 0; lane 3 has the window as given. -/
def linkedTake (st : LaneState) (other : List Frame) : State := linkedWith
  ((laneReads (.descriptor 2) 96 1 { laneIn .active with fillSeen := 1 }).setLane 3 { laneIn st with window := other }) []

theorem witness_DescriptorPlacesTheFrame_linked :
    let data := descriptorOf 4096 0 0 0
    let head := fun number : Word => { frameOf 5 1 with number := number, pairing := .pending }
    (∀ s ∈ [linkedTake .active [], linkedTake .draining [], linkedTake .active [head 99], linkedTake .active [head 100],
        linkedTake .active [head 101], linkedTake .active [{ head 100 with length := 4095 }]],
      s.sentRead 0 = some (sent (.descriptor 2) 96 1) ∧ data.length = 96 ∧ s.linked 2 = true ∧ (s.lane 2).abort = none ∧
        (s.lane 2).window = [] ∧ (s.lane 2).pairingHead = none ∧ (s.lane 2).withdraws = [] ∧
        (readDescriptor data).malformed (s.lane 2).settings.exponent = false ∧ (readDescriptor data).number = 100) ∧
    (let s := (linkedTake .active []).setLane 2
      { laneIn .active with window := [{ frameOf 0 1 with pairing := .pending }], taken := 1, fillSeen := 2 }
    s.sentRead 0 = some (sent (.descriptor 2) 96 1) ∧ s.linked 2 = true ∧ (s.lane 2).abort = none ∧
      (∀ f ∈ (s.lane 2).window, f.pos ≠ (s.lane 2).taken) ∧ (s.lane (twin 2)).pairingHead = none ∧
      (s.lane (twin 2)).state ≠ .draining ∧ (s.lane 2).pairingHead = some { frameOf 0 1 with pairing := .pending }) ∧
    ((linkedTake .active []).lane (twin 2)).pairingHead = none ∧
    ((linkedTake .active [head 99]).lane (twin 2)).pairingHead = some (head 99) ∧
    (linkedTake .active [head 99]).frame? (twin 2) 5 = some (head 99) ∧ (readDescriptor data).length = (head 99).length := by
  decide +kernel

/-- A lane whose second frame waits for a reservation of `n` values. -/
def wantsPlaces (n : Nat) : Lane := { laneIn .active with
  taken := 2
  fillSeen := 2
  window := [{ frameOf 0 1 with ref := .present, reservation := some [7] },
    { frameOf 1 n with ref := .waiting, refAddr := 0x3000#64 }] }

theorem witness_ReservationIsGrantedInOrder :
    (let s := onLane (wantsPlaces 2)
    let older := [{ frameOf 0 1 with ref := .present, reservation := some [7] }]
    let f := { frameOf 1 2 with ref := .waiting, refAddr := 0x3000#64 }
    (s.lane 2).window = older ++ f :: [] ∧ (∀ g ∈ older, ¬ (g.kind = .normal ∧ g.ref = .waiting)) ∧
      f.kind = .normal ∧ f.ref = .waiting ∧ ((s.lane 2).window.map Frame.pos).Nodup ∧ (s.lane 2).state = .active ∧
      s.running = true ∧ (frozen s).running = false ∧ ∀ g ∈ (s.lane 2).window, g.ref ≠ .granted) ∧
    (let used := ((wantsPlaces 0).window.map fun g => (g.reservation.map List.length).getD 0).sum
    used + 8191 ≤ 8192 ∧ 8192 < used + 8192) ∧ (laneIn .opening).state = .opening := by decide +kernel

/-- A reference list read of the second frame, which holds a reservation of 2 values. -/
def listReads (kind : CtlKind) (len attempt : Nat) : State := laneReads kind len attempt { laneIn .active with
  taken := 2
  window := [frameOf 0 1, { frameOf 1 2 with ref := .reading, refAddr := 0x3000#64, reservation := some [0, 0] }] }

theorem witness_ReferenceListIsRead :
    let f := { frameOf 1 2 with ref := .reading, refAddr := 0x3000#64, reservation := some [0, 0] }
    (∀ p ∈ [(CtlKind.refHeader 2 1, 16), (.refBody 2 1 0, 8)],
      (listReads p.1 p.2 1).sentRead 0 = some (sent p.1 p.2 1) ∧ (listReads p.1 p.2 1).frame? 2 1 = some f ∧
        (listReads p.1 p.2 2).sentRead 0 = some (sent p.1 p.2 2)) ∧
    f.kind = .normal ∧
    (let data := leBytes 4 12 ++ leBytes 4 2 ++ leBytes 4 8192 ++ leBytes 4 0
    data.length = 16 ∧ field data 0 1 = 12 ∧ field data 4 4 = 2 ∧ field data 8 4 = f.length ∧
      field (zeros 16) 0 1 ≠ 12) ∧
    ((zeros 8).length = 8 ∧ 8 = 4 * min 128 (f.n - 0) ∧ 0 ≤ f.n ∧ f.reservation = some [0, 0]) ∧
    (let g := frameOf 1 129
    min 128 (g.n - 0) = 128 ∧ 0 + 128 < g.n ∧ min 128 (g.n - 128) = 1 ∧ g.n ≤ 128 + 1) := by decide +kernel

/-- Lane 2 with DRAIN 8 and two frames, its positions on the withdraw list as given. -/
def recalled (withdraws : List Word) : Lane := { laneIn .active with
  drain := 8, taken := 10, fillSeen := 20, window := [frameOf 8 1, frameOf 9 1], withdraws := withdraws }

/-- A RECALL value for lane 2. -/
def recallOf (low : Nat) : Word := natWord (2 * 2 ^ 29 + low)

theorem witness_RecallIsJudgedByPosition :
    (onLane (recalled [])).Settled ∧ (∀ low ∈ [7, 8, 10, 23, 24], recallLane (recallOf low) = 2) ∧
    (recallBefore (recallOf 7) 8 = true ∧ recallBefore (recallOf 32775) 8 = false ∧
      recallBefore (recallOf 32776) 8 = true) ∧
    (laneIn .closed).state = .closed ∧
    ((recalled []).state = .active ∧ (recalled []).abort = none) ∧
    (recallPosition (recallOf 8) 8 = 8 ∧ (frameOf 8 1).pos = 8 ∧ ({ recalled [] with closing := some [] }).closing ≠ none) ∧
    (let withdrawn := { recalled [] with window := [frameOf 8 1, (frameOf 9 1).withdraw] }
    (onLane withdrawn).frame? 2 9 = some (frameOf 9 1).withdraw ∧ (frameOf 9 1).withdraw.kind = .withdrawn) ∧
    ((onLane (recalled [])).frame? 2 10 = none ∧
      ¬ 2 ^ (recalled []).settings.ringLog ≤ (recallPosition (recallOf 23) 8 - 8).toNat ∧
      2 ^ (recalled []).settings.ringLog ≤ (recallPosition (recallOf 24) 8 - 8).toNat) ∧
    (10#32 ∈ (recalled [10]).withdraws ∧ 10#32 ∉ (recalled [11, 12, 13, 14]).withdraws ∧
      4 ≤ (recalled [11, 12, 13, 14]).withdraws.length ∧ (recalled [11, 12, 13]).withdraws.length < 4) :=
  ⟨by unfold State.Settled; decide +kernel, by decide +kernel⟩

/-- Lane 2 DRAINING, a read of that kind of it in flight. -/
def drainedRecall (kind : CtlKind) : State := reading (onLane { recalled [] with state := .draining }) (sent kind 96 1)

/-- R34: of the positions not yet taken, a DRAINING lane lists the one being taken. -/
theorem witness_RecallIsJudgedByPosition_draining :
    let s := drainedRecall (.descriptor 2)
    s.Settled ∧ (s.lane 2).state = .draining ∧ (s.lane 2).abort = none ∧ (s.lane 2).taken = 10 ∧
      s.frame? 2 10 = none ∧ s.frame? 2 11 = none ∧ (∃ r ∈ s.ctl, r.kind = .descriptor 2) ∧
      ∀ r ∈ (drainedRecall (.fill 2)).ctl, r.kind ≠ .descriptor 2 :=
  ⟨by unfold State.Settled; decide +kernel, by decide +kernel⟩

theorem test_recall_of_the_take_of_a_draining_lane :
    ([(recallOf 10, CtlKind.descriptor 2), (recallOf 11, .descriptor 2), (recallOf 10, .fill 2)].map fun p =>
      match exec (.recallWrite p.1) (drainedRecall p.2) with
        | .next t => (t.lane 2).withdraws
        | .fault _ => [0]
        | .refused _ => [0]) = [[10], [], []] := by decide +kernel

/-- A mend of a stripe of lane 3 from the frame at position 9 of lane 2, copying. -/
def mending : Mender := ⟨[⟨2, 9, 3, 0, 0, 0x5000#64, 8, 0x6000#64, 7⟩], .copying ⟨1, stream8, []⟩⟩

theorem witness_RecallWithdrawsTheFrame :
    let s := onLane (recalled [])
    (recallLane (recallOf 9) = 2 ∧ recallPosition (recallOf 9) (s.lane 2).drain = 9 ∧ (s.lane 2).abort = none ∧
      (s.lane 2).closing = none ∧ (s.lane 2).cause ≠ .twinWait ∧ s.linked 2 = false ∧ s.votes = [] ∧
      (s.lane 2).state = .active ∧ recallBefore (recallOf 9) (s.lane 2).drain = false ∧
      s.frame? 2 9 = some (frameOf 9 1) ∧ (frameOf 9 1).kind ≠ .withdrawn ∧ s.mender.queue = []) ∧
    mending.queue.map (fun q => (q.donorLane, q.donorPos, q.lane)) = [(2, 9, 3)] ∧
    mending.engine = .copying ⟨1, stream8, []⟩ ∧ stream8.outstanding ≠ [] := by decide +kernel

/-- Lanes 2 and 3 linked, lane 2's frame at 9 PAIRED with lane 3's frame at 0, and a mend of either from the other
copying. -/
def pairedRecall (q : MendReq) : State := { linkedWith ((onLane { recalled [] with
    window := [frameOf 8 1, { frameOf 9 1 with pairing := .paired 0 }] }).setLane 3
  { laneIn .active with window := [{ frameOf 0 1 with pairing := .paired 9 }], taken := 1, fillSeen := 1 }) [.both 9 0] with
  mender := ⟨[q], .copying ⟨1, stream8, []⟩⟩ }

theorem witness_RecallWithdrawsTheFrame_paired :
    ∀ q ∈ ([⟨2, 9, 3, 0, 0, 0x5000#64, 8, 0x6000#64, 7⟩, ⟨3, 0, 2, 9, 0, 0x5000#64, 8, 0x6000#64, 7⟩] : List MendReq),
      let s := pairedRecall q
      recallLane (recallOf 9) = 2 ∧ recallPosition (recallOf 9) (s.lane 2).drain = 9 ∧ (s.lane 2).abort = none ∧
        (s.lane 2).closing = none ∧ (s.lane (twin 2)).closing = none ∧ s.linked 2 = true ∧ s.votes = [] ∧
        (s.lane 2).state = .active ∧ recallBefore (recallOf 9) (s.lane 2).drain = false ∧
        s.frame? 2 9 = some { frameOf 9 1 with pairing := .paired 0 } ∧
        s.frame? (twin 2) 0 = some { frameOf 0 1 with pairing := .paired 9 } ∧ s.mender.queue = [q] ∧
        s.mender.engine = .copying ⟨1, stream8, []⟩ ∧ stream8.outstanding ≠ [] ∧
        (q.donorLane = 2 ∧ q.donorPos = 9 ∧ q.lane = twin 2 ∧ q.pos = 0 ∨
          q.donorLane = twin 2 ∧ q.donorPos = 0 ∧ q.lane = 2 ∧ q.pos = 9) := by decide +kernel

/-- As `pairedRecall`, both entries of stripe 0 HELD and waiting for a place, and those mends queued on that engine. -/
def heldRecall (queue : List MendReq) (engine : Engine) : State :=
  { pairedRecall ⟨2, 9, 3, 0, 0, 0x5000#64, 8, 0x6000#64, 7⟩ with
    board := [{ entryOf 9 0 .held with partner := some 0, outcome := some (.computed 1) },
      { entryOf 0 0 .held with lane := 3, partner := some 9, outcome := some (.computed 2) }]
    votes := [⟨1, 9, 0, 0, 1, 0⟩]
    mender := ⟨queue, engine⟩ }

/-- The wait list; a mend of the frame that waits for an IDLE engine, and one that waits behind another pair's. -/
theorem witness_RecallWithdrawsTheFrame_waiting :
    let q : MendReq := ⟨2, 9, 3, 0, 0, 0x5000#64, 8, 0x6000#64, 7⟩
    let x : MendReq := ⟨4, 0, 5, 0, 0, 0x5000#64, 8, 0x6000#64, 7⟩
    (∀ s ∈ [heldRecall [q] .idle, heldRecall [x, q] (.copying ⟨1, stream8, []⟩)],
      s.votes ≠ [] ∧ (∀ v ∈ s.votes, v.pair = pairOf 2 ∧ (if isFollower 2 then v.followerPos else v.leaderPos) = 9) ∧
        (s.lane (twin 2)).closing = none ∧ s.linked 2 = true ∧
        (s.entry? 3 0 0).map (fun e => (e.state, e.outcome, e.stripe)) = some (.held, some (.computed 2), 0) ∧
        (∀ e ∈ s.board, e.isAt 3 0 0 = true → some e = s.entry? 3 0 0) ∧ (frameOf 0 1).stripes.length = 1 ∧
        s.mender.queue.Pairwise fun y z => ¬ (y.lane = z.lane ∧ y.pos = z.pos ∧ y.stripe = z.stripe)) ∧
    MendReq.names q 2 9 = true ∧ MendReq.names x 2 9 = false ∧ q.lane = twin 2 := by decide +kernel

/-- R119: the donor's recall cancels the mend, and the recipient lane hands over a CANCELLED finding beside that of its frame
gone solo, but none while a fault condition of it waits. -/
theorem test_cancelled_finding :
    ([none, some Cause.busFault].map fun due =>
      let s := (pairedRecall ⟨2, 9, 3, 0, 0, 0x5000#64, 8, 0x6000#64, 7⟩).updLane 3 fun l => { l with faultDue := due }
      match exec (.recallWrite (recallOf 9)) s with
      | .next t => t.strip.waiting.map fun w => (w.finding.kind, w.finding.code)
      | .fault _ => []
      | .refused _ => []) = [[(4, 3), (2, 3)], [(4, 3)]] := by decide +kernel

/-- A SOLO frame whose item is queued, and PENDING ones: the lane's only head, and one with a head behind it; its twin has
none. -/
theorem witness_RecallWithdrawsTheFrame_solo :
    let waiting := fun fs : List Frame =>
      { recalled [] with state := .starved, cause := .twinWait, window := frameOf 8 1 :: fs }
    let pending := fun pos : Word => { frameOf pos 1 with pairing := .pending }
    (∀ l ∈ [recalled [], waiting [pending 9], waiting [pending 9, pending 10]],
      let s := linkedWith ((onLane l).setLane 3 (laneIn .active)) [.leaderSolo 9]
      recallLane (recallOf 9) = 2 ∧ recallPosition (recallOf 9) (s.lane 2).drain = 9 ∧
        recallBefore (recallOf 9) (s.lane 2).drain = false ∧ (s.lane 2).abort = none ∧ (s.lane 2).closing = none ∧
        s.linked 2 = true ∧ s.votes = [] ∧ (s.decideNext (pairOf 2)).isNone = true ∧ s.mender.queue = [] ∧
        (s.lane 2).state = l.state ∧ (s.frame? 2 9).isSome = true ∧
        ((s.frame? 2 9).any fun f => f.kind ≠ .withdrawn && (f.pairing = .pending || f.isSolo)) = true) ∧
    (waiting [pending 9]).waits = true ∧
    (∀ g ∈ (waiting [pending 9]).window, (g.kind = .normal ∧ g.pairing = .pending) → g.pos = 9) ∧
    ∃ g ∈ (waiting [pending 9, pending 10]).window, (g.kind = .normal ∧ g.pairing = .pending) ∧ g.pos ≠ 9 := by
  decide +kernel

/-- Lane 2 with a pace counter and a starve limit of 1 ms. -/
def paced (group : Nat) : Lane := { laneIn .starved with
  settings := { settings with paceReload := 1, paceFine := 4, starveLimit := 1 }
  pacing := { Pacing.reset with group := group } }

theorem witness_PaceCountersCount :
    let s := onLane (paced 4)
    ((s.lane 2).state = .starved ∧ (s.lane 2).abort = none ∧ ¬ ((2 : LaneId).val % 2 = 1 ∧ s.linked 2 = true) ∧
      (s.lane 2).settings.paceReload ≠ 0 ∧ s.running = true) ∧
    ((4 - 1) * 4 / 16 < 4 * 4 / 16 ∧ (paced 4).pacing.group = 4 ∧ (paced 4).pacing.extraSpent = false) ∧
    (¬ (3 - 1) * 4 / 16 < 3 * 4 / 16 ∧ (paced 3).pacing.group = 3) ∧ (laneIn .paused).state = .paused ∧
    ((paced 4).settings.starveLimit ≤ min ((paced 4).pacing.starveMs + 1) 4294967295 ∧
      (paced 4).pacing.reported = false ∧ settings.starveLimit = 0) := by decide +kernel

theorem witness_PaceGroupLastsItsTicks :
    ∀ fine ∈ [0, 15], ∀ reload ∈ [0, 1],
      let l : Lane := { laneIn .active with
        settings := { settings with paceReload := reload, paceFine := fine }
        pacing := { Pacing.reset with count := reload } }
      l.pacing.count = l.settings.paceReload ∧ l.pacing.group = 1 ∧ l.pacing.extraSpent = false ∧
        l.settings.paceFine ≤ 15 := by decide +kernel

/-- Seven entries of lane 2 and as many others as make `n`. -/
def boardOf (n : Nat) : List Entry :=
  (List.range 7).map (fun i => entryOf 1 i .queued) ++
    (List.range (n - 7)).map fun i => { entryOf 1 i .queued with lane := ⟨3 + i / 8 % 4, by omega⟩ }

theorem witness_CheckEntryIsIssued :
    let s : State := { onLane { laneIn .draining with window := [frameOf 0 2] } with board := boardOf 31 }
    (s.linked 2 = false ∧ (s.lane 2).state = .draining ∧ (s.lane 2).abort = none ∧ (s.lane 2).settings.paceReload = 0 ∧
      (s.board.countP fun e => e.lane = 2) < 8 ∧ s.board.length < 32 ∧ s.running = true) ∧
    (((s.lane 2).window.find? fun g => g.kind = .normal && g.cursor < g.n) = some (frameOf 0 2) ∧
      (frameOf 0 2).ref = .absent ∧ s.frame? 2 0 = some (frameOf 0 2) ∧ s.demand ≤ 32 - s.board.length) ∧
    ({ frameOf 0 2 with ref := .reading }).ref ≠ .present ∧ (boardOf 32).length = 32 ∧
    ((paced 1).settings.paceReload ≠ 0 ∧ (paced 1).pacing.permit = false) := by decide +kernel

/-- The board with one place, while lanes 2 and 6 both wait to issue and it is lane 6's turn; a lane with nothing left to
issue; and one whose oldest frame waits for its reference list. -/
theorem witness_CheckEntryIsIssued_not :
    (let s : State := { (onLane { laneIn .active with window := [frameOf 0 2] }).setLane 6
        { laneIn .active with window := [frameOf 0 2] } with
      board := boardOf 31, arbiter := { Arbiter.reset with issueNext := 3 } }
    s.linked 2 = false ∧ 32 - s.board.length < s.demand ∧ s.issueTurn ≠ some 2) ∧
    (let f := { frameOf 0 2 with cursor := 2 }
    ∀ g ∈ [f], g.kind = .normal → g.n ≤ g.cursor) ∧
    (let f := { frameOf 0 2 with cursor := 2, ref := .waiting }
    ([f, frameOf 1 2].find? fun g => g.kind = .normal && (g.cursor < g.n || !g.refSettled)) = some f ∧
      f.ref ≠ .present ∧ f.ref ≠ .absent) := by decide +kernel

/-- The pair of lanes 2 and 3 linked, each with one frame, its cursor as given, and the queue as given. -/
def pairWith (q : List PairItem) (a b : Nat) : State := linkedWith
  ((onLane { laneIn .active with window := [{ frameOf 0 2 with cursor := a, pairing := .paired 5 }] }).setLane 3
    { laneIn .active with window := [{ frameOf 5 2 with cursor := b, pairing := .paired 0 }] }) q

theorem witness_PairIssuesTogether :
    (∀ p ∈ [(0, 0), (0, 1), (1, 0)],
      let s := pairWith [.both 0 5] p.1 p.2
      (s.link 1).linked = true ∧ (s.lane (leader 1)).settings.paceReload = 0 ∧ s.running = true ∧
        s.board.length + 2 ≤ 32 ∧ s.demand ≤ 32 - s.board.length ∧ s.currentItem 1 = some (.both 0 5) ∧
        ((s.frame? (leader 1) 0).map fun f => (f.cursor, f.refSettled)) = some (p.1, true) ∧
        ((s.frame? (follower 1) 5).map fun f => (f.cursor, f.refSettled)) = some (p.2, true) ∧
        s.takesPaired (leader 1) 0 = true ∧ s.takesPaired (follower 1) 5 = true) ∧
    (let s := pairWith [.leaderSolo 0, .followerSolo 5] 0 0
    let u := pairWith [.followerSolo 5] 0 0
    s.currentItem 1 = some (.leaderSolo 0) ∧ u.currentItem 1 = some (.followerSolo 5) ∧
      s.demand ≤ 32 - s.board.length ∧ u.demand ≤ 32 - u.board.length ∧
      (∀ n ∈ [leader 1, follower 1], (s.lane n).issuesAlone = true ∧ s.quotaRoom n = true) ∧
      (s.lane 2).clearTo 0 = true ∧ (u.lane 3).clearTo 5 = true ∧
      (s.frame? 2 0).isSome = true ∧ (u.frame? 3 5).isSome = true) := by decide +kernel

/-- Nothing is placed for a pair: without a permit, with an empty queue, a pending reference outcome, a full quota on the
side that would receive an entry, and one place left with lane 6's turn. -/
theorem witness_PairIssuesTogether_not :
    (let s := (pairWith [.both 0 5] 0 0).updLane 2 fun l => { l with settings := { settings with paceReload := 1 } }
    (s.link 1).linked = true ∧ (s.lane (leader 1)).settings.paceReload ≠ 0 ∧ (s.lane (leader 1)).pacing.permit = false) ∧
    (pairWith [] 0 0).currentItem 1 = none ∧ (frozen (pairWith [] 0 0)).running = false ∧
    (let s := { pairWith [.both 0 5] 0 0 with board := (List.range 8).map fun i => entryOf 9 i .queued }
    s.currentItem 1 = some (.both 0 5) ∧ s.takesPaired (leader 1) 0 = false ∧ s.quotaRoom (leader 1) = false ∧
      (s.frame? (leader 1) 0).isSome = true ∧ (s.frame? (follower 1) 5).isSome = true) ∧
    (let s := (pairWith [.both 0 5] 0 0).updFrame 3 5 fun f => { f with ref := .waiting }
    s.currentItem 1 = some (.both 0 5) ∧ ((s.frame? (follower 1) 5).map Frame.refSettled) = some false) ∧
    (let s := { (pairWith [.leaderSolo 0] 0 0).setLane 6 { laneIn .active with window := [frameOf 0 2] } with
      links := (Vector.replicate 4 Link.reset).set 1 ⟨true, [.leaderSolo 0]⟩
      board := boardOf 31, arbiter := { Arbiter.reset with issueNext := 3 } }
    s.currentItem 1 = some (.leaderSolo 0) ∧ 32 - s.board.length < s.demand ∧ s.issueTurn ≠ some (leader 1)) := by
  decide +kernel

/-- An older frame without readable stripes whose reference outcome is pending holds back the frame of the item; with the
outcome there it does not. -/
theorem witness_PairIssuesTogether_older :
    ∀ ref ∈ [RefState.waiting, .present],
      let older := { frameOf 4 2 with cursor := 2, ref := ref }
      let f := { frameOf 5 2 with pairing := .paired 0 }
      let s := (pairWith [.both 0 5] 0 0).updLane 3 fun l => { l with window := [older, f] }
      (s.link 1).linked = true ∧ s.currentItem 1 = some (.both 0 5) ∧ s.frame? 3 5 = some f ∧ f.refSettled = true ∧
        (s.lane 3).window = [older] ++ f :: [] ∧ f.pos = 5 ∧ older.pos ≠ 5 ∧ older.kind = .normal ∧ f.cursor = 0 ∧
        ((older.ref = .present ∨ older.ref = .absent) ↔ ref = .present) := by decide +kernel

/-- A context and the mend engine that have a request ready, the last grant as given. -/
def ready (lastMend : Bool) : State := { on.setCtx 3 (some ⟨2, 1, 0, Stream.start 0 1024⟩) with
  mender := ⟨mending.queue, .copying ⟨1, Stream.start 0 1024, []⟩⟩
  arbiter := { Arbiter.reset with lastMend := lastMend } }

theorem witness_PortGrantsAndFetchesInTurn :
    (busy.ReadsInOrder ∧ ∃ r ∈ busy.ctl, r.sent = false) ∧
    ((∀ last : Bool, (∀ r ∈ (ready last).ctl, r.sent = true) ∧ (ready last).arbiter.lastMend = last) ∧
      (ready true).ctx 3 = some ⟨2, 1, 0, Stream.start 0 1024⟩ ∧ (Stream.start 0 1024).ready = true) ∧
    (∀ c : CtxId, on.ctx c = none) ∧ on.mender.engine = .idle ∧ (ready true).ctx 3 ≠ none ∧
    (∀ n : LaneId, on.headEntry n = none) ∧
    (let s : State := { busy with ctl := [], arbiter := { Arbiter.reset with fetchNext := 7 } }
    s.ctx 0 = none ∧ s.running = true ∧ (∀ j : LaneId, j < 3 → s.headEntry (s.arbiter.fetchNext + j) = none) ∧
      s.headEntry (s.arbiter.fetchNext + 3) = some (entryOf 1 0 .queued)) :=
  ⟨⟨by unfold State.ReadsInOrder; decide +kernel, by decide +kernel⟩, by decide +kernel⟩

/-- The first context in turn that is ready, the last of the four. -/
theorem witness_PortGrantsAndFetchesInTurn_turn :
    (3 : CtxId) = (ready true).arbiter.ctxNext + 3 ∧
    (∀ j : CtxId, j < 3 → (ready true).ctx ((ready true).arbiter.ctxNext + j) = none) ∧
    (ready true).arbiter.lastMend = true := by decide +kernel

theorem witness_StreamDigestsInAddressOrder :
    let t := (Stream.start 0x1FF#64 513).send 0 0
    let data := (zeros 513).take 1
    t.Reads (zeros 513) ∧ data = ((zeros 513).drop (0x1FF#64 - t.src).toNat).take data.length ∧
      (Stream.start 0 0).value? = some (crcValue []) :=
  ⟨⟨by decide +kernel, by decide +kernel, by intro _; rfl, by intro p h; cases h⟩, by decide +kernel, by decide +kernel⟩

/-- Context 0 fetches stripe 0 of the frame at position 1 of lane 2, one request being outstanding. -/
def fetching (purpose : Purpose) (confirm discard : Bool) (values : Option (List Word)) (t : Stream) : State :=
  { (onLane { laneIn .active with
      settings := { settings with options := ⟨false, confirm, false, false, false⟩ }
      window := [{ frameOf 1 2 with ref := if values.isSome then .present else .absent, reservation := values }]
      drain := 1 }).setCtx 0 (some ⟨2, 1, 0, t⟩) with
    nextTag := 2
    board := [{ entryOf 1 0 .fetching with purpose := purpose, discard := discard }] }

theorem witness_FetchEndIsHandled :
    (∀ purpose ∈ [Purpose.check, .retry, .confirm], ∀ confirm discard : Bool,
      ∀ values ∈ [none, some [0#32, 0#32], some [crcValue (zeros 8), 0#32]], ∀ t ∈ [stream8, twoRequests],
      let s := fetching purpose confirm discard values t
      s.ctxOf 0 = some 0 ∧ s.ctx 0 = some ⟨2, 1, 0, t⟩ ∧ (s.entry? 2 1 0).isSome = true ∧
        (s.frame? 2 1).isSome = true ∧ (s.lane 2).abort = none ∧
        ((s.frame? 2 1).bind fun g => g.refValue 0) = (values.bind fun vs => vs[0]?) ∧
        ((s.entry? 2 1 0).map Entry.partner) = some none) ∧
    ((stream8.receive 0 0 (zeros 8)).1.value? = some (crcValue (zeros 8)) ∧
      (stream8.receive 0 0 (zeros 7)).1.value? = none ∧ (stream8.receive 0 0 (zeros 7)).1.drained = false) ∧
    (stream8.outstanding.filter fun q => q.tag ≠ 0) = [] ∧
    (twoRequests.outstanding.filter fun q => q.tag ≠ 0) ≠ [] := by decide +kernel

/-- As `fetching`, stripe 0 being of a pair: the entry for that purpose with that first value, its partner so. -/
def fetchingPaired (purpose : Purpose) (first other : Word) (st : EntryState) (t : Stream) : State :=
  let s := fetching purpose false false none t
  { linkedWith (s.setLane 3 { laneIn .active with window := [{ frameOf 5 2 with pairing := .paired 1 }], drain := 5 }) [] with
    ctxs := s.ctxs
    board := [{ entryOf 1 0 .fetching with purpose := purpose, first := some first, current := some first, partner := some 5 },
      { entryOf 5 0 st with
        lane := 3, partner := some 1, first := some other, current := some other
        outcome := if st = .held then some (.computed other) else none }] }

/-- The re-read's value is its own first, the other side's, or neither; the partner is HELD or not. -/
theorem witness_FetchEndIsHandled_partner :
    (∀ purpose ∈ [Purpose.check, .retry, .confirm], ∀ st ∈ [EntryState.queued, .held], ∀ own other : Bool,
      let value := fun here : Bool => if here then crcValue (zeros 8) else 1#32
      let s := fetchingPaired purpose (value own) (value other) st stream8
      s.ctxOf 0 = some 0 ∧ s.ctx 0 = some ⟨2, 1, 0, stream8⟩ ∧ (s.lane 2).abort = none ∧
        (s.entry? 2 1 0).map Entry.purpose = some purpose ∧ (s.entry? 2 1 0).map Entry.partner = some (some 5) ∧
        (s.entry? 2 1 0).map Entry.discard = some false ∧
        ((s.frame? 2 1).map fun g => g.refValue 0) = some none ∧
        (s.entry? (twin 2) 5 0).map Entry.state = some st ∧
        ((stream8.receive 0 0 (zeros 8)).1.value? = (s.entry? 2 1 0).bind Entry.first ↔ own = true) ∧
        ((stream8.receive 0 0 (zeros 8)).1.value? = (s.entry? (twin 2) 5 0).bind Entry.first ↔ other = true)) := by
  decide +kernel

/-- A failed fetch is drained by a completion. -/
theorem witness_FetchEndIsHandled_drained :
    let r := (({ stream8 with failed := true } : Stream).receive 0 0 (zeros 8)).1
    r.value? = none ∧ r.failed = true ∧ r.outstanding = [] := by decide +kernel

theorem witness_TwinFramesPairOrGoSolo :
    (let s := pairWith [] 0 0
    s.linked 2 = true ∧ ∃ a ∈ (s.lane (leader 1)).window, ∃ b ∈ (s.lane (follower 1)).window,
      s.frame? (leader 1) a.pos = some a ∧ s.frame? (follower 1) b.pos = some b ∧ a.number = b.number ∧
        a.length = b.length) ∧
    (frameOf 0 1).number = (frameOf 5 2).number ∧ (frameOf 0 1).length ≠ (frameOf 5 2).length ∧
    ({ frameOf 0 1 with number := 99 }).number.toNat < (frameOf 5 1).number.toNat := by decide +kernel

/-- Lane 2 of a linked pair with a frame all issued and a head behind it; lane 3 has no head, in that state. -/
def oneHead (st : LaneState) : State := linkedWith ((onLane { laneIn .active with
    window := [{ frameOf 0 2 with cursor := 2 }, { frameOf 1 2 with pairing := .pending }], taken := 2, fillSeen := 2 }).setLane 3
  (laneIn st)) []

theorem witness_TwinFramesPairOrGoSolo_waits :
    (let s := oneHead .active
    s.linked 2 = true ∧ (s.lane 2).state = .active ∧ (s.lane 2).abort = none ∧ (s.lane (twin 2)).state ≠ .draining ∧
      (s.lane (twin 2)).taken = (s.lane (twin 2)).fillSeen ∧ s.ctl = [] ∧ (s.lane (twin 2)).window = [] ∧
      (s.lane 2).window = [{ frameOf 0 2 with cursor := 2 }] ++ { frameOf 1 2 with pairing := .pending } :: [] ∧
      ({ frameOf 0 2 with cursor := 2 }).pairing = .solo .unlinked ∧
      (s.link 1).linked = true ∧ (s.decideNext 1).isNone = true ∧ (2 : LaneId) = leader 1) ∧
    (let s := oneHead .draining
    (s.lane 2).pairingHead = some { frameOf 1 2 with pairing := .pending } ∧ (s.lane (twin 2)).pairingHead = none ∧
      (s.lane (twin 2)).state = .draining ∧ s.frame? 2 1 = some { frameOf 1 2 with pairing := .pending }) ∧
    ({ laneIn .starved with cause := .twinWait }).waits = true ∧
    (let s := linkedWith ((onLane { laneIn .active with window := [{ frameOf 0 1 with pairing := .pending }] }).setLane 3
        { laneIn .active with window := [{ frameOf 5 1 with pairing := .pending }] }) []
    (s.lane (leader 1)).pairingHead ≠ none ∧ (s.lane (follower 1)).pairingHead ≠ none) := by decide +kernel

/-- Stripe 0 of the pair of lanes 2 and 3 HELD on both sides with those outcomes; the leader's reference value is 7 or
none, both reels have MEND and CONFIRM, and `queued` places of the mend queue are taken. -/
def held (ref : Option Word) (x y : SideOutcome) (queued : Nat) : State :=
  let c := { settings with options := ⟨false, true, true, true, false⟩ }
  let frame := fun pos other : Word => { frameOf pos 1 with
    pairing := .paired other, mendAddr := 0x9000#64
    ref := if ref.isSome then .present else .absent, reservation := ref.map fun r => [r] }
  let entry := fun (n : LaneId) (pos other : Word) (z : SideOutcome) => { entryOf pos 0 .held with
    lane := n, partner := some other, outcome := some z, current := z.value? }
  { linkedWith ((onLane { laneIn .active with settings := c, window := [frame 0 5] }).setLane 3
      { laneIn .active with settings := c, window := [frame 5 0] }) [] with
    board := [entry 2 0 5 x, entry 3 5 0 y]
    mender := ⟨List.replicate queued ⟨0, 0, 1, 0, 0, 0, 1, 0, 0⟩, .idle⟩ }

theorem witness_VoteSettlesBothSides :
    (∀ q ∈ [(none, SideOutcome.computed 1, SideOutcome.computed 2, 0), (some 7, .computed 7, .computed 7, 8),
        (some 7, .unreadable, .computed 7, 7), (some 7, .unreadable, .computed 7, 8)],
      let s := held q.1 q.2.1 q.2.2.1 q.2.2.2
      ((s.entry? (leader 1) 0 0).map fun a => (a.state, a.outcome, a.purpose)) = some (.held, some q.2.1, .check) ∧
      ((s.entry? (follower 1) 5 0).map fun b => (b.state, b.outcome, b.purpose)) = some (.held, some q.2.2.1, .check) ∧
      ((s.frame? (leader 1) 0).map fun f => (f.stripes.length, f.refValue 0)) = some (1, q.1) ∧
      ((s.frame? (follower 1) 5).map fun g => (g.stripes.length, g.refValue 0)) = some (1, q.1) ∧
      s.votes = [] ∧ s.mender.queue.length = q.2.2.2) ∧
    (judge (some 7) .unreadable (some (.computed 7)) = .mendable ∧
      judge (some 7) (.computed 7) (some .unreadable) = .clean) ∧
    (let v : VoteWait := ⟨1, 0, 5, 0, 2, 0⟩
    v.got + 1 < v.need ∧ ({ v with got := 1 }).need ≤ ({ v with got := 1 }).got + 1) := by decide +kernel

/-- Lane 2's frame PAIRED with one of lane 3 whose stripe is unreadable, with a reference value of 7; the mend option, the
places taken and the places of the votes that wait as given. -/
def oneSided (mend : Bool) (queued : Nat) (votes : List VoteWait) : State := { linkedWith
  ((onLane { laneIn .active with window := [{ frameOf 0 1 with pairing := .paired 5 }] }).setLane 3 { laneIn .active with
    settings := { settings with options := ⟨false, false, mend, false, false⟩ }
    window := [{ frameOf 5 1 with
      pairing := .paired 0, mendAddr := 0x9000#64, ref := .present, reservation := some [7]
      stripes := [Stripe.fresh true] }] }) [] with
  mender := ⟨List.replicate queued ⟨0, 0, 1, 0, 0, 0, 1, 0, 0⟩, .idle⟩, votes := votes }

theorem witness_VoteSettlesBothSides_oneSided :
    ∀ queued ∈ [7, 8], ∀ mend : Bool,
      let s := oneSided mend queued []
      (s.frame? 2 0).map Frame.pairing = some (.paired 5) ∧
        ((s.frame? (twin 2) 5).any fun d => d.kind = .normal && d.stripes = [Stripe.fresh true] &&
          d.refValue 0 = some 7 && d.mendAddr = 0x9000#64) = true ∧
        (Stripe.fresh true).verdict = .unsettled ∧ (Stripe.fresh true).outcome = some .unreadable ∧
        (s.lane (twin 2)).settings.options.mend = mend ∧
        s.mender.queue.length + (s.votes.map VoteWait.got).sum = queued := by decide +kernel

/-- A vote that has 0 or 1 of its 2 places, the last place being free or not. -/
theorem witness_VoteSettlesBothSides_places :
    ∀ got ∈ [0, 1], ∀ queued ∈ [7 - got, 8],
      let s := oneSided true queued [⟨1, 0, 5, 0, 2, got⟩]
      s.mender.queue.length + (s.votes.map VoteWait.got).sum < 8 ∨ queued = 8 := by decide +kernel

theorem witness_MendStartsAndIsRetried :
    (let s : State := { on with mender := ⟨mending.queue, .idle⟩ }
    s.mender.queue = mending.queue.head (by decide) :: [] ∧ s.running = true ∧ s.strip.waiting = [] ∧
      s.strip.disposing = none) ∧
    mending.engine ≠ .idle ∧ (∃ x ∈ stream8.outstanding, x.tag = 0) ∧ (∀ n : LaneId, (on.lane n).abort = none) ∧
    (stream8.outstanding.filter fun x => x.tag ≠ 0) = [] ∧
    (twoRequests.outstanding.filter fun x => x.tag ≠ 0) ≠ [] ∧ on.votes = [] := by decide +kernel

/-- The engine stopping, its last request under tag 0, lane 2 FAULTED with an abort that waits for it, and a vote that waits
for a place. -/
theorem witness_MendStartsAndIsRetried_stopping :
    (let s := { onLane { laneIn .faulted with abort := some ⟨7, true⟩ } with
      mender := ⟨mending.queue, .stopping stream8.outstanding⟩ }
    let x := stream8.outstanding.head (by decide)
    s.mender.engine = .stopping [x] ∧ x.tag = 0 ∧ (s.lane 2).abort = some ⟨7, true⟩ ∧
      (∀ m : LaneId, m ≠ 2 → (s.lane m).abort = none) ∧ s.votes = [] ∧ s.board = [] ∧ s.ctl = [] ∧
      s.evaluations = [] ∧ s.mender.queue.tail = []) ∧
    (let s := { oneSided true 0 [⟨1, 0, 5, 0, 2, 1⟩] with mender := ⟨mending.queue, .stopping twoRequests.outstanding⟩ }
    s.votes ≠ [] ∧ (∀ n : LaneId, (s.lane n).abort = none) ∧ (∃ x ∈ twoRequests.outstanding, x.tag = 1) ∧
      (twoRequests.outstanding.filter fun x => x.tag ≠ 1) ≠ []) := by decide +kernel

theorem witness_MendCopiesTheDonor :
    ([] : List Byte).length ≤ 0 ∧
    (let s : State := { on with mender := mending }
    s.mender.queue = mending.queue.head (by decide) :: [] ∧ s.mender.engine = .copying ⟨1, stream8, []⟩ ∧
      (∃ x ∈ stream8.outstanding, x.tag = 0) ∧ (∀ n : LaneId, (s.lane n).abort = none) ∧ s.votes = []) ∧
    (let r := fun n => (stream8.receive 0 0 (zeros n)).1
    (r 7).value? = none ∧ (r 7).failed = false ∧ (r 8).value? = some (crcValue (zeros 8)) ∧
      crcValue (zeros 8) ≠ (mending.queue.head (by decide)).ref) := by decide +kernel

/-- A block of one byte kept back before a boundary; data that matches no request, before and after a failure; and a stopping
engine whose request takes its data in. -/
theorem witness_MendCopiesTheDonor_unfinished :
    ([0] : List Byte).length ≤ 511 ∧ (0 + 511) % 512 ≠ 0 ∧ 511 ≠ 1024 ∧
    (let r := fun (t : Stream) (addr : Addr) (n : Nat) => (t.receive 0 addr (zeros n)).1
    ((r stream8 1 8).failed = true ∧ (r stream8 1 8).outstanding = []) ∧
      ((r twoRequests 1 512).failed = true ∧ (r twoRequests 1 512).outstanding ≠ [])) ∧
    (let x := stream8.outstanding.head (by decide)
    (stream8.outstanding.find? fun y => y.tag = 0) = some x ∧ 0 < (zeros 8).length ∧
      x.off ≤ ((0x5000#64 : Addr) - 0x5000#64).toNat ∧ 0 + (zeros 8).length ≤ x.off + x.len ∧
      ((stream8.outstanding.map fun y => if y.tag = 0 then { y with got := y.got + 8 } else y).filter
        fun y => y.got < y.len) = [] ∧ stream8.outstanding.filter (fun y => y.tag ≠ 0) = []) := by decide +kernel

theorem witness_CloseIssuesItsWorkInOrder :
    (∀ st ∈ [LaneState.active, .starved, .paused, .draining], ∀ v ∈ [Verdict.clean, .damaged],
      let f := { frameOf 0 1 with stripes := [settled v] }
      let s := onLane { laneIn st with taken := 2, fillSeen := 2, window := [f, frameOf 1 1] }
      (s.lane 2).window = f :: [frameOf 1 1] ∧ (s.lane 2).state = st ∧ (s.lane 2).abort = none ∧
        (s.lane 2).closing = none ∧ (s.lane 2).ending = none ∧ (s.lane 2).faultDue = none ∧ s.running = true ∧
        f.kind = .normal ∧ (∀ x ∈ f.stripes, x.verdict ≠ .unsettled) ∧ s.board = [] ∧ s.mender.queue = [] ∧
        (f.runs = [] ↔ v = .clean) ∧ ∀ h ∈ [frameOf 1 1], h.pos ≠ f.pos) ∧
    ((frameOf 0 1).withdraw.kind = .withdrawn ∧ ∀ r ∈ on.ctl, CtlKind.isRefOf 2 0 r.kind = false) ∧
    ({ frameOf 0 1 with kind := .malformed }).kind = .malformed ∧
    (let f := { frameOf 0 1 with recordAddr := 0x7000#64, stripes := [settled .clean] }
    f.recordAddr ≠ 0 ∧ (∀ x ∈ f.stripes, x.computed ≠ none) ∧ (Stripe.fresh true).computed = none) ∧
    (laneIn .opening).state = .opening := by decide +kernel

/-- A lane under an abort of R48 may close its frames; one with a finding of its own, a mend finding or an evaluation still
to be done with may not. -/
theorem witness_CloseIssuesItsWorkInOrder_holds :
    (let s := onLane { laneIn .opening with
      window := [(frameOf 0 1).withdraw], taken := 1, fillSeen := 1, abort := some ⟨7, false⟩ }
    (s.lane 2).abort = some ⟨7, false⟩ ∧ (s.lane 2).closing = none ∧ (s.lane 2).ending = none ∧
      (s.lane 2).faultDue = none ∧ s.running = true ∧ s.evaluations = [] ∧ s.strip.waiting = [] ∧
      s.strip.disposing = none ∧ ((frameOf 0 1).withdraw).runs = []) ∧
    (let w := fun pos : Word => (⟨mendFailedFinding 2 pos 100 0 .mismatch 3 0 1 2, .mendEngine, 0⟩ : Waiting)
    (w 0).submitter = .mendEngine ∧ (w 0).finding.lane = BitVec.ofNat 8 (2 : LaneId).val ∧
      (w 0).finding.w0 = (frameOf 0 1).pos ∧ (w 1).finding.w0 ≠ (frameOf 0 1).pos) ∧
    (Submitter.fault 2).block = .lane 2 := by decide +kernel

theorem witness_RunsCoverTheVerdicts :
    let stripes := [settled .clean, settled .damaged, settled .damaged]
    (∃ r ∈ runsFrom 0 none stripes, 0 < r.first) ∧ stripes[0]? = some (settled .clean) ∧
      stripes[2]? = some (settled .damaged) ∧ (∃ r ∈ runsFrom 0 none (stripes.drop 1), r.first = 0) ∧
      ∃ r ∈ runsFrom 0 none (stripes.drop 1 ++ [settled .clean]), r.first + r.count < 3 := by decide +kernel

theorem witness_VerdictFollowsTheTable :
    usable (some (.computed 1)) = some 1 ∧ usable (some .unreadable) = none ∧ usable none = none ∧ (1 : Word) ≠ 2 := by
  decide

theorem witness_CountsAndScoresFollowTheVerdicts :
    (let f := { frameOf 0 2 with stripes := [settled .clean, settled .damaged] }
    (∀ x ∈ f.stripes, x.verdict ≠ .unsettled) ∧ f.kind = .normal ∧ f.stripes ≠ [] ∧
      (frameOf 0 2).withdraw.kind ≠ .normal) ∧
    (let c := { settings with avgSamples := 1, window := 1000000, quiet := 1000000 }
    c.InRange ∧ Tally.reset.scoreS ≤ 1000000 ∧ 1 ≤ c.avgSamples ∧ settings.window = 0 ∧
      ([settled .transit].countP fun x => x.verdict ≠ .transit) = 0 ∧
      0 < [settled .damaged].countP fun x => x.verdict ≠ .transit) ∧
    (let c := { settings with window := 999999 }
    c.window ≠ 0 ∧ c.window < ((1000000 : Nat) - (0 : Int)).natAbs) := by
  refine ⟨by decide +kernel, ⟨by constructor <;> decide +kernel, by decide +kernel⟩, by decide +kernel⟩

/-- Trip point 1 watches lane 2's damage count with threshold 5 and hysteresis 2. -/
def trips (damage : Nat) (tripped : Bool) (action : TripAction) : State :=
  (onLane { laneIn .active with tally := { Tally.reset with damage := damage } }).setTrip 1
    ⟨true, 9, action, 5, 2, tripped, 0, none⟩

theorem witness_TripPointsTripAndReArm :
    (∀ p ∈ [(2, true), (3, true), (4, false), (5, false)], ∀ action ∈ [TripAction.notify, .pause, .step],
      let s := trips p.1 p.2 action
      (s.trip 1).tripped = p.2 ∧ (s.trip 1).source % 4 = 1 ∧ (s.trip 1).action = action ∧
        (s.lane 2).tally.damage = p.1 ∧ (s.lane 2).state = .active ∧ (s.lane 2).abort = none) ∧
    (2 - 0 < 5 - 2 ∧ 5 - 2 ≤ 3 - 0 ∧ 4 - 0 < 5 ∧ 5 ≤ 5 - 0) := by decide +kernel

/-- Settings at the edges of R143, a staged copy for lane 2 and for no lane, and evaluations that are due with the health
unit waiting or not. -/
theorem witness_TripPointsTripAndReArm_settings :
    ((⟨true, 8, 2, 1000001, 1000002⟩ : TripRaw).taken.threshold = 1000000 ∧
      (⟨true, 9, 2, 0, 1⟩ : TripRaw).taken.threshold = 1 ∧ (⟨true, 9, 3, 0, 1⟩ : TripRaw).taken.hysteresis = 0) ∧
    (∀ source ∈ [9, 32], ∀ staged ∈ [9, 32],
      let x : TripPoint := ⟨true, source, .notify, 1, 0, true, 4, some ⟨true, staged, 0, 1, 0⟩⟩
      (x.source / 4 = (2 : LaneId).val ↔ source = 9) ∧ (32 ≤ source ↔ source = 32) ∧ x.staged ≠ none) ∧
    (let s : State := { trips 5 false .pause with evaluations := [(2, 1), (2, 2)] }
    (∃ e ∈ s.evaluations.tail, e.1 = 2) ∧ s.strip.waiting = [] ∧ s.strip.disposing = none ∧
      (s.lane 2).faultDue = none ∧ (∃ w ∈ (s.evaluate 2 1).strip.waiting, w.submitter = .health)) := by decide +kernel

/-- A finding of that submitter, waiting. -/
def findingOf (by_ : Submitter) : Waiting := ⟨laneFaultFinding 2 .busFault 0 0, by_, 0⟩

/-- The findings unit with that finding waiting, the room and the overrun as given. -/
def unitWith (w : Waiting) (room : Nat) (overrun : Bool) : State := { on with
  strip := { on.strip with waiting := [w], room := room, overrun := overrun } }

theorem witness_FindingIsPlacedOrReadFor :
    State.reset.regs.ready = false ∧ on.strip.waiting = [] ∧
    (∀ by_ ∈ [Submitter.mendEngine, .health, .lane 2], ∀ p ∈ [(0, false), (1, true), (1, false)],
      let s := unitWith (findingOf by_) p.1 p.2
      s.strip.disposing = none ∧ s.regs.ready = true ∧ s.strip.waiting ≠ [] ∧
        s.strip.next 5 = some (findingOf by_) ∧ s.strip.room = p.1 ∧ s.strip.overrun = p.2) := by decide +kernel

theorem witness_SubmitterGoesOn :
    (∀ by_ ∈ [Submitter.closeRun 2, .reelEnd 2 .aborted, .fault 2],
      let s := unitWith (findingOf by_) 1 false
      s.strip.disposing = none ∧ s.regs.ready = true ∧ s.strip.next 0 = some (findingOf by_) ∧
        s.strip.overrun = false ∧ 1 ≤ s.strip.room ∧ s.running = true) ∧
    (let f := laneFaultFinding 2 .busFault 0 0
    let s := (unitWith (findingOf (.closeRun 2)) 1 false).setLane 2 { threeFrames with closing := some [f] }
    let u := (unitWith (findingOf (.closeRun 2)) 1 false).setLane 2 { threeFrames with closing := some [] }
    (s.lane 2).closing = some [f] ∧ (u.lane 2).closing = some [] ∧ (u.lane 2).window ≠ [] ∧
      (u.lane 2).abort = none ∧ (u.lane 2).faultDue = none) ∧
    (let s := (unitWith (findingOf (.reelEnd 2 .aborted)) 1 false).setLane 2
      { laneIn .draining with ending := some .aborted, abort := some ⟨1, false⟩ }
    (s.lane 2).ending = some .aborted ∧ s.linked 2 = false) := by decide +kernel

/-- The ends that are due at lane 2: of a DRAINING lane, of an aborting one, of one aborted from FAULTED; and a linked lane
whose twin is in TWIN_WAIT. -/
theorem witness_SubmitterGoesOn_ends :
    (∀ l ∈ [laneIn .draining, { laneIn .active with abort := some ⟨7, false⟩ },
        { laneIn .faulted with abort := some ⟨7, true⟩ }],
      let u := onLane l
      (u.lane 2).window = [] ∧ (u.lane 2).closing = none ∧ (u.lane 2).ending = none ∧ u.running = true ∧ u.ctl = [] ∧
        u.evaluations = [] ∧ u.strip.waiting = [] ∧ u.strip.disposing = none ∧ u.board = [] ∧ u.mender.queue = []) ∧
    (let u := linkedWith ((onLane { laneIn .draining with ending := some .closedByCommand }).setLane 3
        { laneIn .starved with cause := .twinWait }) []
    u.linked 2 = true ∧ (u.lane (twin 2)).state = .starved ∧ (u.lane (twin 2)).cause = .twinWait ∧
      (u.lane 2).ending = some .closedByCommand ∧ (u.lane 2).ending ≠ some .aborted) := by decide +kernel

/-- STRIP_READ outstanding for a finding, STRIP_WRITTEN at 64. -/
def readsStrip (overrun : Bool) (attempt : Nat) : State := { reading on (sent .stripRead 4 attempt) with
  strip := { on.strip with written := 64, room := 0, overrun := overrun, disposing := some (findingOf .health) } }

theorem witness_StripReadIsJudged :
    (∀ overrun : Bool, ∀ attempt ∈ [1, 2],
      let s := readsStrip overrun attempt
      s.sentRead 0 = some (sent .stripRead 4 attempt) ∧ s.strip.disposing = some (findingOf .health) ∧
        s.dir.stripCapacity = 64 ∧ s.strip.overrun = overrun) ∧
    (64#32 - 1).toNat = 63 ∧ (64#32 - 2).toNat + 1 < 64 ∧ (64#32 - 0).toNat = 64 ∧
    64 < (64#32 - 0xFFFFFFFF#32).toNat := by decide +kernel

/-- STRIP_READ one below the place that fills the strip: an OVERRUN record takes the last place. -/
theorem witness_StripReadIsJudged_last :
    (readsStrip true 1).strip.overrun = true ∧ (64#32 - 1).toNat + 1 = (readsStrip true 1).dir.stripCapacity ∧
    (∀ by_ ∈ [Submitter.closeRun 2, .reelEnd 2 .aborted, .fault 2, .lane 2, .mendEngine, .health],
      ({ readsStrip true 1 with
        strip := { (readsStrip true 1).strip with disposing := some (findingOf by_) } }).strip.disposing =
          some (findingOf by_)) := by decide +kernel

end Sys2Proof.Tests
end

section
/-! SUPPORT. The rules the reference list statements use: the frame a state update leaves at a position, settling stripes
as a change of lanes alone, the values of a list body, the states an answered control read leaves behind, and the outcomes
of the three list commands (R7 to R10). -/

namespace Sys2Proof.Machine

/-! ### The frame at a position -/

theorem State.frame?_congr {s t : State} (h : t.lanes = s.lanes) (n : LaneId) (pos : Word) :
    t.frame? n pos = s.frame? n pos := by
  simp only [State.frame?, State.lane_congr h]

theorem State.pos_of_frame? {s : State} {n : LaneId} {pos : Word} {f : Frame} (h : s.frame? n pos = some f) :
    f.pos = pos := of_decide_eq_true (List.find?_some (p := fun f : Frame => decide (f.pos = pos)) h)

@[simp] theorem State.frame?_finish (s : State) (n : LaneId) (pos : Word) : s.finish.frame? n pos = s.frame? n pos :=
  State.frame?_congr s.finish_lanes n pos

/-- A change of the frame records at a position that keeps their positions. -/
theorem State.frame?_updFrame (s : State) (n m : LaneId) (pos p : Word) (g : Frame → Frame)
    (hg : ∀ f, (g f).pos = f.pos) :
    (s.updFrame n pos g).frame? m p =
      (s.frame? m p).map fun f => if m = n ∧ f.pos = pos then g f else f := by
  have keeps : (fun f : Frame => decide (f.pos = p)) ∘ (fun f => if f.pos = pos then g f else f) =
      fun f => decide (f.pos = p) := by
    funext f
    simp only [Function.comp]
    split <;> simp only [hg]
  simp only [State.frame?, State.updFrame, State.lane_updLane]
  split
  next e => simp only [e, List.find?_map, keeps, true_and]
  next e => simp only [e, false_and, if_false, Option.map_id']

theorem State.frame?_updFrame_same {s : State} {n : LaneId} {pos : Word} {f : Frame} (h : s.frame? n pos = some f)
    (g : Frame → Frame) (hg : ∀ f, (g f).pos = f.pos) : (s.updFrame n pos g).frame? n pos = some (g f) := by
  simp only [s.frame?_updFrame n n pos pos g hg, h, State.pos_of_frame? h, Option.map_some, and_self, if_true]

/-! ### Settling unreadable stripes -/

/-- The two records differ at most in their stripe verdict lists. -/
def Frame.SameButStripes (f g : Frame) : Prop := g = { f with stripes := g.stripes }

theorem Frame.SameButStripes.trans {f g h : Frame} (a : f.SameButStripes g) (b : g.SameButStripes h) :
    f.SameButStripes h := by
  unfold Frame.SameButStripes at *
  rw [b, a]

theorem State.frame?_updFrame_stripes {s : State} {n : LaneId} {pos : Word} {f : Frame} (h : s.frame? n pos = some f)
    (m : LaneId) (q : Word) (g : Frame → Frame) (hg : ∀ f : Frame, f.SameButStripes (g f)) :
    ∃ k, (s.updFrame m q g).frame? n pos = some k ∧ f.SameButStripes k := by
  rw [s.frame?_updFrame m n q pos g fun f => by rw [hg f], h]
  refine ⟨_, rfl, ?_⟩
  dsimp only
  split
  · exact hg f
  · rfl

theorem State.frame?_settleUnreadable {s : State} {n : LaneId} {pos : Word} {f : Frame} (h : s.frame? n pos = some f) :
    ∃ k, (s.settleUnreadable n pos).frame? n pos = some k ∧ f.SameButStripes k :=
  State.frame?_updFrame_stripes h n pos _ fun f => by split <;> rfl

theorem State.frame?_settleBothUnreadable {s : State} {n : LaneId} {pos : Word} {f : Frame}
    (h : s.frame? n pos = some f) (p : PairId) (lp fp : Word) :
    ∃ k, (s.settleBothUnreadable p lp fp).frame? n pos = some k ∧ f.SameButStripes k := by
  unfold State.settleBothUnreadable
  split
  next a b _ _ =>
    split
    · obtain ⟨k, hk, fk⟩ := State.frame?_updFrame_stripes h (leader p) lp (fun f => f.settleBoth b) fun _ => rfl
      obtain ⟨l, hl, kl⟩ := State.frame?_updFrame_stripes hk (follower p) fp (fun f => f.settleBoth a) fun _ => rfl
      exact ⟨l, hl, fk.trans kl⟩
    · exact ⟨f, h, rfl⟩
  · exact ⟨f, h, rfl⟩

/-- What a settled reference outcome leaves of the frame: everything but stripe verdicts (R15, R89, R101). -/
theorem State.frame?_refOutcomeSettled {s : State} {n : LaneId} {pos : Word} {f : Frame} (h : s.frame? n pos = some f) :
    ∃ k, (s.refOutcomeSettled n pos).frame? n pos = some k ∧ f.SameButStripes k := by
  unfold State.refOutcomeSettled
  split
  · split
    · exact State.frame?_settleBothUnreadable h _ _ _
    · exact State.frame?_settleBothUnreadable h _ _ _
  · exact State.frame?_settleUnreadable h

theorem State.settleBothUnreadable_lanes_only (s : State) (p : PairId) (lp fp : Word) :
    s.settleBothUnreadable p lp fp = { s with lanes := (s.settleBothUnreadable p lp fp).lanes } := by
  unfold State.settleBothUnreadable
  split
  · split <;> rfl
  · rfl

theorem State.refOutcomeSettled_lanes_only (s : State) (n : LaneId) (pos : Word) :
    s.refOutcomeSettled n pos = { s with lanes := (s.refOutcomeSettled n pos).lanes } := by
  unfold State.refOutcomeSettled
  split
  · split <;> exact s.settleBothUnreadable_lanes_only _ _ _
  · rfl

@[simp] theorem State.refOutcomeSettled_ctl (s : State) (n : LaneId) (pos : Word) :
    (s.refOutcomeSettled n pos).ctl = s.ctl := by rw [s.refOutcomeSettled_lanes_only]

@[simp] theorem State.refOutcomeSettled_strip (s : State) (n : LaneId) (pos : Word) :
    (s.refOutcomeSettled n pos).strip = s.strip := by rw [s.refOutcomeSettled_lanes_only]

/-! ### The values of a list body (R7) -/

theorem leWords_length (data : List Byte) : (leWords data).length = data.length / 4 := by
  induction data using leWords.induct with
  | case1 a b c d rest ih =>
    simp only [leWords, List.length_cons, ih]
    omega
  | case2 data short =>
    have few : data.length < 4 := by
      match data, short with
      | [], _ | [_], _ | [_, _], _ | [_, _, _], _ => exact Nat.le_of_ble_eq_true rfl
      | a :: b :: c :: d :: rest, short => exact (short a b c d rest rfl).elim
    simp only [leWords, List.length_nil, Nat.div_eq_of_lt few]

/-- Value `i` of a body stands in its bytes `4 i` to `4 i + 3`. -/
theorem leWords_getElem? (data : List Byte) (i : Nat) (h : i < (leWords data).length) :
    (leWords data)[i]? = some (natWord (field data (4 * i) 4)) := by
  induction data using leWords.induct generalizing i with
  | case1 a b c d rest ih =>
    cases i with
    | zero => rfl
    | succ i =>
      simp only [leWords, List.length_cons] at h
      have next : field (a :: b :: c :: d :: rest) (4 * (i + 1)) 4 = field rest (4 * i) 4 := rfl
      rw [next, leWords, List.getElem?_cons_succ, ih i (by omega)]
  | case2 data short =>
    simp only [leWords, List.length_nil] at h
    exact absurd h (Nat.not_lt_zero i)

theorem copyValues_length (held : List Word) (first : Nat) (vs : List Word) (h : first + vs.length ≤ held.length) :
    (copyValues held first vs).length = held.length := by
  simp only [copyValues, List.length_append, List.length_take, List.length_drop]
  omega

/-- The copied values stand from `first` on, and every other value stays. -/
theorem copyValues_getElem? (held : List Word) (first : Nat) (vs : List Word) (h : first + vs.length ≤ held.length)
    (i : Nat) :
    (copyValues held first vs)[i]? =
      if first ≤ i ∧ i < first + vs.length then vs[i - first]? else held[i]? := by
  have taken : (held.take first).length = first := by rw [List.length_take]; omega
  unfold copyValues
  rcases Nat.lt_or_ge i first with before | behind
  · rw [if_neg (by omega), List.append_assoc, List.getElem?_append_left (by omega), List.getElem?_take_of_lt before]
  rw [List.append_assoc, List.getElem?_append_right (by omega), taken]
  rcases Nat.lt_or_ge (i - first) vs.length with within | beyond
  · rw [if_pos (by omega), List.getElem?_append_left within]
  · rw [if_neg (by omega), List.getElem?_append_right beyond, List.getElem?_drop]
    congr 1
    omega

/-! ### An answered control read -/

/-- The state in which the answer to a control read is acted on: the command has begun, and the read is taken in. -/
def State.answered (s : State) (tag : Nat) : State := s.began.dropRead tag

@[simp] theorem State.answered_now (s : State) (tag : Nat) : (s.answered tag).now = s.now + 1 := rfl
@[simp] theorem State.answered_ctl (s : State) (tag : Nat) : (s.answered tag).ctl = s.otherReads tag := rfl
@[simp] theorem State.answered_strip (s : State) (tag : Nat) : (s.answered tag).strip = s.strip := rfl
@[simp] theorem State.frame?_dropRead (s : State) (tag : Nat) (n : LaneId) (pos : Word) :
    (s.dropRead tag).frame? n pos = s.frame? n pos := rfl
@[simp] theorem State.frame?_began (s : State) (n : LaneId) (pos : Word) : s.began.frame? n pos = s.frame? n pos := rfl
@[simp] theorem State.lane_answered (s : State) (tag : Nat) (n : LaneId) : (s.answered tag).lane n = s.lane n := rfl
@[simp] theorem State.sentRead_began (s : State) (tag : Nat) : s.began.sentRead tag = s.sentRead tag := rfl

/-- An answer that begins the next read: nothing else changes, and the new read keeps the part busy. -/
theorem State.answered_request_finish (s : State) (tag : Nat) (kind : CtlKind) (a : Addr) (len attempt : Nat) :
    ((s.answered tag).request kind a len attempt).finish = { s with
      now := s.now + 1
      nextTag := s.nextTag + 1
      ctl := s.otherReads tag ++ [s.newRead 0 kind a len attempt] } :=
  State.finish_of_ctl _ (List.append_ne_nil_of_right_ne_nil _ (List.cons_ne_nil _ _))

/-- No end is due in a lane that neither aborts nor drains (R47, R48, R49). -/
theorem State.laneEnd_of_not_ending {s : State} {n : LaneId} (ha : (s.lane n).abort = none)
    (hd : (s.lane n).state ≠ .draining) : s.laneEnd n = s := by
  have noBare : s.bareTry n = s := by simp only [State.bareTry, ha]
  have noAbort : s.abortTry n = s := by
    simp only [State.abortTry, ha, Option.any_none, Bool.false_and, Bool.false_eq_true, if_false]
  have noReelEnd : s.reelEndTry n = s := by
    simp only [State.reelEndTry, hd, decide_false, Bool.false_and, Bool.false_eq_true, if_false]
  rw [State.laneEnd, noBare, noAbort, noReelEnd]

/-! ### The outcomes of the list commands -/

section commands

variable {s : State} {r : CtlRead} {n : LaneId} {pos : Word} {f : Frame}

theorem exec_refHeaderArrival (hr : s.sentRead r.tag = some r) (hk : r.kind = .refHeader n pos) {data : List Byte}
    (hl : data.length = 16) : exec (.refHeaderArrival r.tag data) s = .next (s.began.refHeader r n pos data).finish := by
  show execRefHeaderArrival r.tag data s = _
  unfold execRefHeaderArrival
  exact attempt_some (by simp only [State.sentRead_began, hr, hk, hl, ne_eq, not_true_eq_false, if_false])

theorem exec_refBodyComplete (hr : s.sentRead r.tag = some r) {first : Nat} (hk : r.kind = .refBody n pos first)
    {data : List Byte} (hl : data.length = r.len) :
    exec (.refBodyComplete r.tag data) s = .next (s.began.refBody r n pos first data).finish := by
  show execRefBodyComplete r.tag data s = _
  unfold execRefBodyComplete
  exact attempt_some (by simp only [State.sentRead_began, hr, hk, hl, ne_eq, not_true_eq_false, if_false])

/-- A failed header request and a failed body request are treated alike (R9). -/
theorem exec_refListReadFail (hr : s.sentRead r.tag = some r)
    (hk : r.kind = .refHeader n pos ∨ ∃ first, r.kind = .refBody n pos first) :
    exec (.refListReadFail r.tag) s = .next (s.began.refFailed r n pos).finish := by
  show execRefListReadFail r.tag s = _
  unfold execRefListReadFail
  rcases hk with hk | ⟨first, hk⟩
  · exact attempt_some (by simp only [State.sentRead_began, hr, hk])
  · exact attempt_some (by simp only [State.sentRead_began, hr, hk])

theorem refHeaderAgrees_iff (data : List Byte) (e k l : Nat) :
    refHeaderAgrees data e k l = true ↔ field data 0 1 = e ∧ field data 4 4 = k ∧ field data 8 4 = l := by
  simp only [refHeaderAgrees, Bool.and_eq_true, decide_eq_true_eq, and_assoc]

section header

variable (hf : s.frame? n pos = some f) (hd : r.discard = false) (data : List Byte)
include hf hd

/-- The header of a withdrawn frame is not compared (R10; log entry 23). -/
theorem State.refHeader_of_withdrawn (hk : f.kind = .withdrawn) :
    s.began.refHeader r n pos data = (s.answered r.tag).requestBody n f 0 r.attempt := by
  simp only [State.refHeader, State.frame?_dropRead, State.frame?_began, hf, hd, hk, ne_eq, reduceCtorEq,
    not_false_eq_true, if_true, if_false, Bool.false_eq_true, State.answered]

/-- The header of a normal frame is compared with the reel's e and the frame's N and L (R8). -/
theorem State.refHeader_of_normal (hk : f.kind = .normal) :
    s.began.refHeader r n pos data =
      if field data 0 1 = (s.lane n).settings.exponent ∧ field data 4 4 = f.n ∧ field data 8 4 = f.length
      then (s.answered r.tag).requestBody n f 0 r.attempt else (s.answered r.tag).rejectRef n f .geometry := by
  simp only [State.refHeader, State.frame?_dropRead, State.frame?_began, hf, hd, hk, ne_eq, not_true_eq_false,
    if_false, Bool.false_eq_true, refHeaderAgrees_iff, State.lane_dropRead, State.lane_began, State.answered]

end header

section body

variable (hf : s.frame? n pos = some f) (hd : r.discard = false) {first : Nat} (data : List Byte)
include hf hd

/-- The last body request of a withdrawn frame ends the attempt (R10). -/
theorem State.refBody_of_withdrawn (hk : f.kind = .withdrawn) (last : f.n ≤ first + min 128 (f.n - first)) :
    s.began.refBody r n pos first data = (s.answered r.tag).laneEnd n := by
  simp only [State.refBody, State.frame?_dropRead, State.frame?_began, hf, hd, hk, reduceCtorEq, if_false,
    Bool.false_eq_true, bodyChunk, if_neg (Nat.not_lt.2 last), State.answered]

/-- The data of a normal frame's body request is copied into its reservation; then the next request goes out, or the
frame has its reference (R7). -/
theorem State.refBody_of_normal (hk : f.kind = .normal) :
    s.began.refBody r n pos first data =
      let u := (s.answered r.tag).updFrame n pos fun g => g.copied first (leWords data)
      if first + min 128 (f.n - first) < f.n then u.requestBody n f (first + min 128 (f.n - first)) r.attempt
      else (u.updFrame n pos Frame.referenced).refOutcomeSettled n pos := by
  simp only [State.refBody, State.frame?_dropRead, State.frame?_began, hf, hd, hk, if_true, if_false,
    Bool.false_eq_true, bodyChunk, State.answered]

end body

section failure

variable (hf : s.frame? n pos = some f)
include hf

theorem State.refFailed_of_withdrawn (hk : f.kind = .withdrawn) :
    s.began.refFailed r n pos = (s.answered r.tag).laneEnd n := by
  simp only [State.refFailed, State.frame?_dropRead, State.frame?_began, hf, hk, ne_eq, reduceCtorEq,
    not_false_eq_true, decide_true, Bool.or_true, if_true, State.answered]

theorem State.refFailed_of_normal (hd : r.discard = false) (hk : f.kind = .normal) :
    s.began.refFailed r n pos =
      if r.attempt = 1 then (s.answered r.tag).requestRef n f 2 else (s.answered r.tag).rejectRef n f .unreadable := by
  simp only [State.refFailed, State.frame?_dropRead, State.frame?_began, hf, hd, hk, ne_eq, not_true_eq_false,
    decide_false, Bool.or_self, Bool.false_eq_true, if_false, State.answered]

end failure

end commands

/-! ### A rejected list (R8, R9) -/

/-- In `t` the list of the frame `f` has been rejected with that subcode, by the answer given in `s` to the read under
`tag`. -/
def State.ListRejected (s : State) (tag : Nat) (n : LaneId) (pos : Word) (f : Frame) (code : Nat) (t : State) : Prop :=
  ∃ g, t.frame? n pos = some g ∧ g.ref = .absent ∧ g.reservation = none ∧
    g.refGeometry = (f.refGeometry || code = 1) ∧ g.refUnreadable = (f.refUnreadable || code = 2) ∧
    t.ctl = s.otherReads tag ∧
    t.strip.waiting = s.strip.waiting ++ [⟨referenceRejectedFinding n f code, .lane n, s.now + 1⟩]

theorem Rejection.code_eq_one (why : Rejection) : why.code = 1 ↔ why = .geometry := by
  cases why <;> decide

theorem Rejection.code_eq_two (why : Rejection) : why.code = 2 ↔ why = .unreadable := by
  cases why <;> decide

/-- A rejection takes the frame's reference and reservation and hands its finding over; settling what waited for the
reference outcome changes neither. -/
theorem State.rejectRef_listRejected {s : State} {n : LaneId} {pos : Word} {f : Frame} (hf : s.frame? n pos = some f)
    (tag : Nat) (why : Rejection) :
    s.ListRejected tag n pos f why.code ((s.answered tag).rejectRef n f why).finish := by
  obtain rfl : f.pos = pos := State.pos_of_frame? hf
  have rejected : ((s.answered tag).updFrame n f.pos fun g => g.rejected why).frame? n f.pos = some (f.rejected why) :=
    State.frame?_updFrame_same (s := s.answered tag) hf _ fun _ => rfl
  obtain ⟨g, hg, same⟩ := State.frame?_refOutcomeSettled (s := ((s.answered tag).updFrame n f.pos fun g =>
    g.rejected why).hand (referenceRejectedFinding n f why.code) (.lane n)) rejected
  refine ⟨g, (State.frame?_finish _ _ _).trans hg, ?_⟩
  rw [same]
  simp only [Frame.rejected, Rejection.code_eq_one, Rejection.code_eq_two]
  simp only [State.rejectRef, State.finish_ctl, State.finish_strip, State.refOutcomeSettled_ctl,
    State.refOutcomeSettled_strip, State.hand_ctl, State.hand_strip, State.updFrame_ctl, State.updFrame_strip,
    State.updFrame_now, State.answered_ctl, State.answered_strip, State.answered_now, and_self]

end Sys2Proof.Machine
end

section
/-! PROOF. A reference list is read request by request, agreed, rejected or read again (R7 to R10). -/

namespace Sys2Proof.Machine

section reads

variable {s : State} {r : CtlRead} {n : LaneId} {pos : Word} {f : Frame}

theorem requestBody_answered (hf : s.frame? n pos = some f) (tag first attempt : Nat) :
    ((s.answered tag).requestBody n f first attempt).finish = { s with
      now := s.now + 1
      nextTag := s.nextTag + 1
      ctl := s.otherReads tag ++ [s.newRead 0 (.refBody n pos first) (Addr.plus f.refAddr (16 + 4 * first))
        (4 * min 128 (f.n - first)) attempt] } := by
  rw [← State.pos_of_frame? hf]
  exact s.answered_request_finish tag _ _ _ _

theorem requestRef_answered (hf : s.frame? n pos = some f) (tag attempt : Nat) :
    ((s.answered tag).requestRef n f attempt).finish = { s with
      now := s.now + 1
      nextTag := s.nextTag + 1
      ctl := s.otherReads tag ++ [s.newRead 0 (.refHeader n pos) f.refAddr 16 attempt] } := by
  rw [← State.pos_of_frame? hf]
  exact s.answered_request_finish tag _ _ _ _

/-- What the data of a body request leaves in a reservation of the frame's N values. -/
theorem copyValues_of_body {held : List Word} {data : List Byte} {first k m : Nat} (hl : data.length = 4 * m)
    (hh : held.length = k) (hm : first + m ≤ k) :
    (copyValues held first (leWords data)).length = k ∧
      ∀ i, i < k → (copyValues held first (leWords data))[i]? =
        if first ≤ i ∧ i < first + m then some (natWord (field data (4 * (i - first)) 4)) else held[i]? := by
  have len : (leWords data).length = m := by rw [leWords_length, hl]; omega
  have fits : first + (leWords data).length ≤ held.length := by rw [len, hh]; exact hm
  refine ⟨(copyValues_length _ _ _ fits).trans hh, fun i _ => ?_⟩
  rw [copyValues_getElem? _ _ _ fits, len]
  split
  next within => exact leWords_getElem? _ _ (by omega)
  next => rfl

/-- The end a body request of a normal frame brings: its values stand in the reservation, and either the next request
waits or the frame has its reference. -/
theorem refBody_copies (hr : s.sentRead r.tag = some r) (hf : s.frame? n pos = some f) (hd : r.discard = false)
    (hk : f.kind = .normal) {first : Nat} (hb : r.kind = .refBody n pos first) {data : List Byte}
    (hl : data.length = r.len) {held : List Word} (hh : f.reservation = some held) :
    ∃ (t : State) (g : Frame), exec (.refBodyComplete r.tag data) s = .next t ∧ t.frame? n pos = some g ∧
      g.reservation = some (copyValues held first (leWords data)) ∧
      (first + min 128 (f.n - first) < f.n → g.ref = f.ref ∧ t.ctl = s.otherReads r.tag ++
        [s.newRead 0 (.refBody n pos (first + min 128 (f.n - first)))
          (Addr.plus f.refAddr (16 + 4 * (first + min 128 (f.n - first))))
          (4 * min 128 (f.n - (first + min 128 (f.n - first)))) r.attempt]) ∧
      (f.n ≤ first + min 128 (f.n - first) → g.ref = .present ∧ t.ctl = s.otherReads r.tag) := by
  obtain rfl : f.pos = pos := State.pos_of_frame? hf
  have copied : ((s.answered r.tag).updFrame n f.pos fun g => g.copied first (leWords data)).frame? n f.pos =
      some (f.copied first (leWords data)) := State.frame?_updFrame_same (s := s.answered r.tag) hf _ fun _ => rfl
  have reserved : (f.copied first (leWords data)).reservation = some (copyValues held first (leWords data)) := by
    simp only [Frame.copied, hh, Option.map_some]
  rw [exec_refBodyComplete hr hb hl, State.refBody_of_normal hf hd data hk]
  dsimp only
  split
  next more =>
    refine ⟨_, _, rfl, (State.frame?_finish _ _ _).trans copied, reserved, fun _ => ⟨rfl, ?_⟩, fun last => ?_⟩
    · exact State.finish_ctl _
    · omega
  next last =>
    obtain ⟨g, hg, same⟩ := State.frame?_refOutcomeSettled
      (State.frame?_updFrame_same copied Frame.referenced fun _ => rfl)
    refine ⟨_, g, rfl, (State.frame?_finish _ _ _).trans hg, ?_, fun more => absurd more last, fun _ => ⟨?_, ?_⟩⟩
    · rw [same]
      exact reserved
    · rw [same]
      rfl
    · simp only [State.finish_ctl, State.refOutcomeSettled_ctl, State.updFrame_ctl, State.answered_ctl]

end reads

/-- The list read of a withdrawn frame runs to the end of its attempt, without effect on the frame (R10). -/
theorem withdrawnListRead (s : State) (r : CtlRead) (n : LaneId) (pos : Word) (f : Frame)
    (hr : s.sentRead r.tag = some r) (hf : s.frame? n pos = some f) (hk : f.kind = .withdrawn)
    (ha : (s.lane n).abort = none) (hs : (s.lane n).state ≠ .draining) :
    let ended := State.finish { s with now := s.now + 1, ctl := s.otherReads r.tag }
    ((r.kind = .refHeader n pos ∨ ∃ first, r.kind = .refBody n pos first) →
      exec (.refListReadFail r.tag) s = .next ended) ∧
    (r.kind = .refHeader n pos → r.discard = false → ∀ data : List Byte, data.length = 16 →
      exec (.refHeaderArrival r.tag data) s = .next { s with
        now := s.now + 1
        nextTag := s.nextTag + 1
        ctl := s.otherReads r.tag ++
          [s.newRead 0 (.refBody n pos 0) (Addr.plus f.refAddr 16) (4 * min 128 f.n) r.attempt] }) ∧
    ∀ first : Nat, r.kind = .refBody n pos first → r.discard = false → ∀ data : List Byte, data.length = r.len →
      f.n ≤ first + min 128 (f.n - first) → exec (.refBodyComplete r.tag data) s = .next ended := by
  have noEnd : (s.answered r.tag).laneEnd n = s.answered r.tag := State.laneEnd_of_not_ending ha hs
  refine ⟨fun hb => ?_, fun hh hd data hl => ?_, fun first hb hd data hl last => ?_⟩
  · rw [exec_refListReadFail hr hb, State.refFailed_of_withdrawn hf hk, noEnd]
    rfl
  · rw [exec_refHeaderArrival hr hh hl, State.refHeader_of_withdrawn hf hd data hk, requestBody_answered hf]
    rfl
  · rw [exec_refBodyComplete hr hb hl, State.refBody_of_withdrawn hf hd data hk last, noEnd]
    rfl

/-- Settles O39. The read of a withdrawn frame stands apart; for a normal frame a header and a failure either begin a request
or reject the list, and a body's data goes into the reservation before the next request begins or the reference is held. -/
theorem referenceListIsRead : Obligations.ReferenceListIsRead := by
  refine ⟨withdrawnListRead, fun s r n pos f hr hd hf hk =>
    ⟨fun hh data hl => ⟨fun agrees => ?agrees, fun differs => ?differs⟩,
      fun first hb data held hl hm hfirst hheld hlen => ?body,
      fun hb => ⟨fun once => ?retry, fun twice => ?failed⟩⟩⟩
  case agrees =>
    rw [exec_refHeaderArrival hr hh hl, State.refHeader_of_normal hf hd data hk, if_pos agrees, requestBody_answered hf]
    rfl
  case differs =>
    rw [exec_refHeaderArrival hr hh hl, State.refHeader_of_normal hf hd data hk, if_neg differs]
    exact ⟨_, rfl, State.rejectRef_listRejected hf r.tag .geometry⟩
  case body =>
    obtain ⟨t, g, ht, hg, reserved, more, last⟩ := refBody_copies hr hf hd hk hb hl hheld
    obtain ⟨len, values⟩ := copyValues_of_body (first := first) (hl.trans hm) hlen (by omega)
    exact ⟨t, g, _, ht, hg, reserved, len, values, more, last⟩
  case retry =>
    rw [exec_refListReadFail hr hb, State.refFailed_of_normal hf hd hk, if_pos once, requestRef_answered hf]
  case failed =>
    rw [exec_refListReadFail hr hb, State.refFailed_of_normal hf hd hk, if_neg twice]
    exact ⟨_, rfl, State.rejectRef_listRejected hf r.tag .unreadable⟩

end Sys2Proof.Machine
end

section
/-! PROOF. The verdict table (R13, R14). -/

namespace Sys2Proof.Machine

/-- Only a computed value is usable evidence (R13). -/
theorem usable_eq_some {y : Option SideOutcome} {w : Word} : usable y = some w ↔ y = some (.computed w) := by
  rcases y with _ | (v | _ | _)
  case some.computed =>
    simp only [usable, SideOutcome.value?, Option.bind_some, Option.some.injEq, SideOutcome.computed.injEq]
  all_goals exact ⟨nofun, nofun⟩

theorem usable_eq_none {y : Option SideOutcome} : usable y = none ↔ ∀ w : Word, y ≠ some (.computed w) := by
  simp only [Option.eq_none_iff_forall_ne_some, ne_eq, usable_eq_some]

section table

variable {y : Option SideOutcome} (a v : Word) {w : Word}

theorem judge_computed_of_reference_of_usable (h : usable y = some w) :
    judge (some a) (.computed v) y =
      if v = a then .clean else if w = a then .mendable else if w = v then .suspect else .damaged := by
  simp only [judge, h]

theorem judge_computed_of_reference_of_unusable (h : usable y = none) :
    judge (some a) (.computed v) y = if v = a then .clean else .damaged := by
  simp only [judge, h]

theorem judge_unreadable_of_reference_of_usable (h : usable y = some w) :
    judge (some a) .unreadable y = if w = a then .mendable else .unreadable := by
  simp only [judge, h]

theorem judge_unreadable_of_reference_of_unusable (h : usable y = none) :
    judge (some a) .unreadable y = .unreadable := by
  simp only [judge, h]

theorem judge_computed_of_usable (h : usable y = some w) :
    judge none (.computed v) y = if w = v then .consistent else .divergent := by
  simp only [judge, h]

theorem judge_computed_of_unusable (h : usable y = none) : judge none (.computed v) y = .unverified := by
  simp only [judge, h]

/-- A side that agrees with the reference is CLEAN, whatever the twin is. -/
theorem judge_of_agreement (y : Option SideOutcome) : judge (some a) (.computed a) y = .clean := by
  cases h : usable y with
  | none => rw [judge_computed_of_reference_of_unusable a a h, if_pos rfl]
  | some w => rw [judge_computed_of_reference_of_usable a a h, if_pos rfl]

end table

/-- Settles O55, row by row, after "usable" has been read as what the table compares. -/
theorem verdictFollowsTheTable : Obligations.VerdictFollowsTheTable := by
  intro r x y
  simp only [← usable_eq_some, ← usable_eq_none]
  refine ⟨?transit, fun a hr => ?reference, fun hr => ?none⟩
  case transit =>
    rintro ⟨why, rfl⟩
    rfl
  case reference =>
    subst hr
    refine ⟨?clean, ?mendable, ?suspect, ?damaged, ?unreadable⟩
    case clean =>
      rintro rfl
      exact judge_of_agreement a y
    case mendable =>
      rintro (⟨v, rfl, hv⟩ | rfl) hw
      · rw [judge_computed_of_reference_of_usable a v hw, if_neg hv, if_pos rfl]
      · rw [judge_unreadable_of_reference_of_usable a hw, if_pos rfl]
    case suspect =>
      rintro v rfl hv hw
      rw [judge_computed_of_reference_of_usable a v hw, if_neg hv, if_neg hv, if_pos rfl]
    case damaged =>
      rintro v rfl hv (hn | ⟨w, hw, hwa, hwv⟩)
      · rw [judge_computed_of_reference_of_unusable a v hn, if_neg hv]
      · rw [judge_computed_of_reference_of_usable a v hw, if_neg hv, if_neg hwa, if_neg hwv]
    case unreadable =>
      rintro rfl (hn | ⟨w, hw, hwa⟩)
      · exact judge_unreadable_of_reference_of_unusable a hn
      · rw [judge_unreadable_of_reference_of_usable a hw, if_neg hwa]
  case none =>
    subst hr
    refine ⟨?unreadable, ?consistent, ?divergent, ?unverified⟩
    case unreadable =>
      rintro rfl
      rfl
    case consistent =>
      rintro v rfl hw
      rw [judge_computed_of_usable v hw, if_pos rfl]
    case divergent =>
      rintro v w rfl hw hwv
      rw [judge_computed_of_usable v hw, if_neg hwv]
    case unverified =>
      rintro v rfl hn
      exact judge_computed_of_unusable v hn

end Sys2Proof.Machine
end

section
/-! SUPPORT. The rules the pacing statements use: when the counters run, what each tick of a counter does in each of its
cases, and the outcomes of the three pacing commands (R57 to R62, R66 to R69). -/

namespace Sys2Proof.Machine

/-! ### Replacing a lane -/

@[simp] theorem State.running_updLane (s : State) (n : LaneId) (f : Lane → Lane) :
    (s.updLane n f).running = s.running := rfl

/-- The later of two replacements of one lane stands. -/
theorem State.setLane_setLane (s : State) (n : LaneId) (l m : Lane) : (s.setLane n l).setLane n m = s.setLane n m := by
  simp only [State.setLane, Vector.set_set]

/-- Background work starts and stops nothing: whether the part runs stands in CONTROL. -/
theorem Kept.running {s t : State} (h : Kept s t) : t.running = s.running := by
  unfold State.running
  rw [h.regs]

/-! ### When the counters run (R58, R60, R65, R66, R68) -/

theorem State.paceRuns_iff (s : State) (n : LaneId) :
    s.paceRuns n = true ↔
      ((s.lane n).state = .active ∨ (s.lane n).state = .starved ∨ (s.lane n).state = .draining) ∧
        (s.lane n).abort = none ∧ ¬ (n.val % 2 = 1 ∧ s.linked n = true) ∧ (s.lane n).settings.paceReload ≠ 0 ∧
          s.running = true := by
  simp only [State.paceRuns, isFollower, Bool.and_eq_true, Bool.or_eq_true, Bool.not_eq_true', Bool.and_eq_false_iff,
    decide_eq_true_eq, decide_eq_false_iff_not, Option.isNone_iff_eq_none,
    Decidable.not_and_iff_not_or_not, Bool.not_eq_true, and_assoc, or_assoc]

theorem State.starveRuns_iff (s : State) (n : LaneId) :
    s.starveRuns n = true ↔ (s.lane n).state = .starved ∧ (s.lane n).abort = none ∧ s.running = true := by
  simp only [State.starveRuns, Bool.and_eq_true, decide_eq_true_eq, Option.isNone_iff_eq_none, and_assoc]

theorem State.running_of_paceRuns {s : State} {n : LaneId} (h : s.paceRuns n = true) : s.running = true := by
  obtain ⟨-, -, -, -, running⟩ := (s.paceRuns_iff n).1 h
  exact running

theorem State.running_of_starveRuns {s : State} {n : LaneId} (h : s.starveRuns n = true) : s.running = true := by
  obtain ⟨-, -, running⟩ := (s.starveRuns_iff n).1 h
  exact running

/-! ### The pace counter (R59, R61, R62) -/

theorem lengthened_iff (g fine : Nat) : lengthened g fine = true ↔ (g - 1) * fine / 16 < g * fine / 16 := by
  simp only [lengthened, decide_eq_true_eq]

theorem Pacing.atZero_of_extra {p : Pacing} {c : Settings} (h : lengthened p.group c.paceFine = true)
    (unspent : p.extraSpent = false) : p.atZero c = { p with count := 0, extraSpent := true } := by
  rw [Pacing.atZero, h, unspent]
  rfl

theorem Pacing.atZero_of_not_extra {p : Pacing} {c : Settings}
    (h : ¬ (lengthened p.group c.paceFine = true ∧ p.extraSpent = false)) : p.atZero c = p.underflow c.paceReload := by
  rw [Pacing.atZero, if_neg]
  rwa [Bool.and_eq_true, Bool.not_eq_true']

theorem Lane.paceTick_of_pos {l : Lane} (h : 0 < l.pacing.count) :
    l.paceTick = { l with pacing := { l.pacing with count := l.pacing.count - 1 } } := if_pos h

theorem Lane.paceTick_of_zero {l : Lane} (h : l.pacing.count = 0) : l.paceTick = l.paceAtZero :=
  if_neg (Nat.not_lt.2 (Nat.le_of_eq h))

/-- A tick of the pace counter changes the pacing timer alone. -/
theorem Lane.paceTick_pacing_only (l : Lane) : l.paceTick = { l with pacing := l.paceTick.pacing } := by
  unfold Lane.paceTick
  split <;> rfl

theorem State.starveRuns_paceTick (s : State) (n : LaneId) : (s.updLane n Lane.paceTick).starveRuns n = s.starveRuns n := by
  simp only [State.starveRuns, State.lane_updLane, if_true, State.running_updLane]
  rw [Lane.paceTick_pacing_only]

/-! ### The poll counter (R66) -/

theorem State.pollTick_of_more {s : State} {n : LaneId} (h : 1 < (s.lane n).pacing.poll) :
    s.pollTick n = s.updLane n fun l => { l with pacing := { l.pacing with poll := l.pacing.poll - 1 } } := if_pos h

theorem State.pollTick_of_last {s : State} {n : LaneId} (h : (s.lane n).pacing.poll ≤ 1) :
    s.pollTick n = s.pollExpires n := if_neg (Nat.not_lt.2 h)

theorem State.running_pollExpires (s : State) (n : LaneId) : (s.pollExpires n).running = s.running :=
  (State.fillCause_kept _ n).running

/-! ### The starve measurement (R68, R69) -/

theorem Lane.stalls_iff (l : Lane) :
    l.stalls = true ↔
      l.settings.starveLimit ≠ 0 ∧ l.settings.starveLimit ≤ l.pacing.starveMs ∧ l.pacing.reported = false := by
  simp only [Lane.stalls, Bool.and_eq_true, Bool.not_eq_true', decide_eq_true_eq, and_assoc]

theorem State.starveMs_of_not_stalls {s : State} {n : LaneId} (h : ¬ (s.lane n).starveMsMore.stalls = true) :
    s.starveMs n = s.updLane n Lane.starveMsMore := by
  simp only [State.starveMs, State.lane_updLane, if_true, if_neg h]

theorem State.starveMs_of_stalls {s : State} {n : LaneId} (h : (s.lane n).starveMsMore.stalls = true) :
    s.starveMs n =
      (s.hand (stallFinding n (s.lane n).starveMsMore) (.lane n)).setLane n (s.lane n).starveMsMore.stallReported := by
  simp only [State.starveMs, if_true, if_pos h, State.updLane, State.lane_setLane, State.lane_hand]
  exact State.setLane_setLane (s.hand (stallFinding n (s.lane n).starveMsMore) (.lane n)) n _ _

theorem State.running_starveMs (s : State) (n : LaneId) : (s.starveMs n).running = s.running := by
  by_cases h : (s.lane n).starveMsMore.stalls = true
  · rw [State.starveMs_of_stalls h]
    rfl
  · rw [State.starveMs_of_not_stalls h, State.running_updLane]

theorem State.starveTick_of_within {s : State} {n : LaneId} (h : (s.lane n).pacing.starveSub + 1 < Config.ticksPerMs) :
    s.starveTick n =
      s.updLane n fun l => { l with pacing := { l.pacing with starveSub := l.pacing.starveSub + 1 } } := if_pos h

theorem State.starveTick_of_whole {s : State} {n : LaneId} (h : Config.ticksPerMs ≤ (s.lane n).pacing.starveSub + 1) :
    s.starveTick n =
      (s.updLane n fun l => { l with pacing := { l.pacing with starveSub := 0 } }).starveMs n :=
  if_neg (Nat.not_lt.2 h)

/-! ### The outcomes of the pacing commands -/

/-- A guarded command whose effect leaves the part running has that effect alone. -/
theorem attempt_running {guard : State → Bool} {f : State → State} {s : State} (hg : guard s.began = true)
    (hr : (f s.began).running = true) :
    attempt (fun s => if guard s then some (f s) else none) s = .next (f s.began) := by
  rw [attempt_some (if_pos hg), State.finish_of_running _ hr]

theorem attempt_guard_false {guard : State → Bool} {f : State → State} {s : State} (hg : ¬ guard s.began = true) :
    attempt (fun s => if guard s then some (f s) else none) s = .next s := attempt_none (if_neg hg)

section commands

variable {s : State} {n : LaneId}

theorem exec_paceUnderflow (h : s.paceRuns n = true) :
    exec (.paceUnderflow n) s = .next (s.began.setLane n (s.lane n).paceAtZero) := by
  show execPaceUnderflow n s = _
  exact attempt_running (guard := fun s => s.paceRuns n) (f := fun s => s.updLane n Lane.paceAtZero) h
    ((State.running_updLane _ n _).trans (State.running_of_paceRuns h))

theorem exec_paceUnderflow_of_stopped (h : ¬ s.paceRuns n = true) : exec (.paceUnderflow n) s = .next s := by
  show execPaceUnderflow n s = _
  exact attempt_guard_false (guard := fun s => s.paceRuns n) h

theorem exec_pollExpiry (h : s.starveRuns n = true) :
    exec (.pollExpiry n) s = .next (s.began.pollExpires n) := by
  show execPollExpiry n s = _
  exact attempt_running (guard := fun s => s.starveRuns n) (f := fun s => s.pollExpires n) h
    ((State.running_pollExpires _ n).trans (State.running_of_starveRuns h))

theorem exec_pollExpiry_of_stopped (h : ¬ s.starveRuns n = true) : exec (.pollExpiry n) s = .next s := by
  show execPollExpiry n s = _
  exact attempt_guard_false (guard := fun s => s.starveRuns n) h

theorem exec_starveMsTick (h : s.starveRuns n = true) :
    exec (.starveMsTick n) s = .next (s.began.starveMs n) := by
  show execStarveMsTick n s = _
  exact attempt_running (guard := fun s => s.starveRuns n) (f := fun s => s.starveMs n) h
    ((State.running_starveMs _ n).trans (State.running_of_starveRuns h))

theorem exec_starveMsTick_of_stopped (h : ¬ s.starveRuns n = true) : exec (.starveMsTick n) s = .next s := by
  show execStarveMsTick n s = _
  exact attempt_guard_false (guard := fun s => s.starveRuns n) h

end commands

end Sys2Proof.Machine
end

section
/-! PROOF. The pacing commands count (R59, R61, R62, R66, R68, R69). -/

namespace Sys2Proof.Machine

/-- Settles O42, counter by counter: a running one meets its tick, a stopped one lets it pass. -/
theorem paceCountersCount : Obligations.PaceCountersCount := by
  intro s n
  dsimp only
  rw [← State.paceRuns_iff, ← State.starveRuns_iff]
  refine ⟨fun runs extra => ?extra, fun runs spent => ?underflow, exec_paceUnderflow_of_stopped, exec_pollExpiry,
    fun runs quiet => ?millisecond, fun runs stall => ?stall,
    fun stopped => ⟨exec_pollExpiry_of_stopped stopped, exec_starveMsTick_of_stopped stopped⟩⟩
  case extra =>
    obtain ⟨long, unspent⟩ := extra
    rw [exec_paceUnderflow runs, Lane.paceAtZero, Pacing.atZero_of_extra ((lengthened_iff _ _).2 long) unspent]
    rfl
  case underflow =>
    rw [← lengthened_iff] at spent
    rw [exec_paceUnderflow runs, Lane.paceAtZero, Pacing.atZero_of_not_extra spent]
    rfl
  case millisecond =>
    have below : ¬ (s.began.lane n).starveMsMore.stalls = true := fun h => quiet ((Lane.stalls_iff _).1 h)
    rw [exec_starveMsTick runs, State.starveMs_of_not_stalls below]
    rfl
  case stall =>
    have reached : (s.began.lane n).starveMsMore.stalls = true := (Lane.stalls_iff _).2 stall
    rw [exec_starveMsTick runs, State.starveMs_of_stalls reached]
    rfl

end Sys2Proof.Machine
end

section
/-! PROOF. A group of sixteen periods (R59, R61): the counter's periods one after another, the extra ticks spread over
them. -/

namespace Sys2Proof.Machine

/-- Ticks one after another: `k` of them, then `m` more. -/
theorem repeat_add {α : Type} (f : α → α) (m k : Nat) (a : α) :
    Nat.repeat f (m + k) a = Nat.repeat f m (Nat.repeat f k a) := by
  induction m with
  | zero => rw [Nat.zero_add, Nat.repeat]
  | succ m ih => rw [Nat.succ_add, Nat.repeat, ih, Nat.repeat]

theorem repeat_one {α : Type} (f : α → α) (a : α) : Nat.repeat f 1 a = f a := rfl

/-- The extra ticks of the first `g + 1` periods are those of the first `g` and that of period `g + 1`. -/
theorem extraTicks_succ (g : Nat) {fine : Nat} (h : fine ≤ 15) :
    (g + 1) * fine / 16 = g * fine / 16 + (lengthened (g + 1) fine).toNat := by
  rw [lengthened, Nat.add_sub_cancel, Nat.succ_mul]
  by_cases more : g * fine / 16 < (g * fine + fine) / 16
  · rw [decide_eq_true more, Bool.toNat_true]
    omega
  · rw [decide_eq_false more, Bool.toNat_false]
    omega

/-- The lane with its pace counter at `k`. -/
def Lane.atCount (l : Lane) (k : Nat) : Lane := { l with pacing := { l.pacing with count := k } }

/-- The lane at the start of period `g` of a group: the counter at its reload, the extra tick unspent. -/
def Lane.atPeriod (l : Lane) (g : Nat) (permit : Bool) : Lane :=
  { l with pacing := { l.pacing with
      count := l.settings.paceReload, group := g, extraSpent := false, permit := permit } }

/-- A counter counts down to 0 in as many ticks as it holds. -/
theorem Lane.paceTick_repeat_atCount (l : Lane) (k : Nat) : Nat.repeat Lane.paceTick k (l.atCount k) = l.atCount 0 := by
  induction k with
  | zero => rfl
  | succ k ih =>
    have down : (l.atCount (k + 1)).paceTick = l.atCount k := Lane.paceTick_of_pos (Nat.succ_pos k)
    rw [repeat_add, repeat_one, down, ih]

/-- Period `g` lasts P + 1 ticks, and one more when it is lengthened. -/
theorem Lane.paceTick_repeat_atPeriod (l : Lane) (g : Nat) (permit : Bool) :
    Nat.repeat Lane.paceTick ((lengthened g l.settings.paceFine).toNat + 1 + l.settings.paceReload)
        (l.atPeriod g permit) =
      l.atPeriod (nextGroup g) true := by
  have countdown : Nat.repeat Lane.paceTick l.settings.paceReload (l.atPeriod g permit) =
      (l.atPeriod g permit).atCount 0 :=
    (l.atPeriod g permit).paceTick_repeat_atCount l.settings.paceReload
  have zero : ((l.atPeriod g permit).atCount 0).paceTick = ((l.atPeriod g permit).atCount 0).paceAtZero :=
    Lane.paceTick_of_zero rfl
  rw [repeat_add, countdown, repeat_add, repeat_one, zero]
  cases long : lengthened g l.settings.paceFine with
  | false =>
    rw [Lane.paceAtZero, Pacing.atZero_of_not_extra fun h => Bool.false_ne_true (long.symm.trans h.1)]
    rfl
  | true =>
    have spent : ¬ (lengthened g l.settings.paceFine = true ∧ true = false) := fun h => Bool.false_ne_true h.2.symm
    rw [Lane.paceAtZero, Pacing.atZero_of_extra long rfl, Bool.toNat_true, repeat_one, Lane.paceTick_of_zero rfl,
      Lane.paceAtZero, Pacing.atZero_of_not_extra spent]
    rfl

/-- The first `k + 1` periods of a group last as many times P + 1 ticks, and their extra ticks. -/
theorem Lane.paceTick_repeat_periods (l : Lane) (permit : Bool) (fine : l.settings.paceFine ≤ 15) (k : Nat)
    (hk : k < 16) :
    Nat.repeat Lane.paceTick ((k + 1) * (l.settings.paceReload + 1) + (k + 1) * l.settings.paceFine / 16)
        (l.atPeriod 1 permit) =
      l.atPeriod (nextGroup (k + 1)) true := by
  induction k with
  | zero =>
    have ticks := extraTicks_succ 0 fine
    rw [Nat.zero_mul, Nat.zero_div, Nat.zero_add] at ticks
    rw [Nat.zero_add, ticks, ← l.paceTick_repeat_atPeriod 1 permit]
    congr 1
    omega
  | succ k ih =>
    have next : nextGroup (k + 1) = k + 1 + 1 := if_pos hk
    have split : (k + 1 + 1) * (l.settings.paceReload + 1) + (k + 1 + 1) * l.settings.paceFine / 16 =
        ((lengthened (k + 1 + 1) l.settings.paceFine).toNat + 1 + l.settings.paceReload) +
          ((k + 1) * (l.settings.paceReload + 1) + (k + 1) * l.settings.paceFine / 16) := by
      rw [extraTicks_succ (k + 1) fine, Nat.succ_mul (k + 1)]
      omega
    rw [split, repeat_add, ih (by omega), next, l.paceTick_repeat_atPeriod]

/-- Settles O43: sixteen periods from the first, the last of which leads back to it. -/
theorem paceGroupLastsItsTicks : Obligations.PaceGroupLastsItsTicks := by
  intro l count group unspent fine
  have start : l.atPeriod 1 l.pacing.permit = l := by
    rw [Lane.atPeriod, ← count, ← group, ← unspent]
  have stop : { l with pacing := { l.pacing with permit := true } } = l.atPeriod 1 true := by
    rw [Lane.atPeriod, ← count, ← group, ← unspent]
  have ticks := l.paceTick_repeat_periods l.pacing.permit fine 15 (by decide)
  rw [start, Nat.mul_div_cancel_left _ (by decide)] at ticks
  rw [stop]
  exact ticks

end Sys2Proof.Machine
end

section
/-! PROOF. An idle step is one tick of the pace clock (R57, R58, R66, R68), and what it puts in the queue is what is overdue
(section 1.4). -/

namespace Sys2Proof.Machine

/-! ### What a tick at the lanes leaves alone -/

/-- From `s` to `t` only lanes changed, control reads began to wait, not yet sent, and findings were handed over. -/
structure Ticked (s t : State) : Prop where
  frame : t = { s with
    nextTag := t.nextTag
    ctl := t.ctl
    lanes := t.lanes
    strip := { s.strip with waiting := t.strip.waiting } }
  reads : s.ctl <+: t.ctl
  sent : ∀ r ∈ t.ctl, r.sent = true → r ∈ s.ctl
  waiting : s.strip.waiting <+: t.strip.waiting

theorem Ticked.refl (s : State) : Ticked s s where
  frame := rfl
  reads := List.prefix_refl _
  sent := fun _ h _ => h
  waiting := List.prefix_refl _

theorem Ticked.trans {s t u : State} (h : Ticked s t) (k : Ticked t u) : Ticked s u where
  frame := by
    rw [k.frame, h.frame]
  reads := h.reads.trans k.reads
  sent := fun r hr sent => h.sent r (k.sent r hr sent) sent
  waiting := h.waiting.trans k.waiting

theorem Ticked.foldl {α : Type} {f : State → α → State} (h : ∀ s a, Ticked s (f s a)) (l : List α) (s : State) :
    Ticked s (l.foldl f s) := by
  induction l generalizing s with
  | nil => exact .refl s
  | cons a l ih => exact (h s a).trans (ih _)

theorem State.setLane_ticked (s : State) (n : LaneId) (l : Lane) : Ticked s (s.setLane n l) :=
  { Ticked.refl s with frame := rfl }

theorem State.updLane_ticked (s : State) (n : LaneId) (f : Lane → Lane) : Ticked s (s.updLane n f) :=
  s.setLane_ticked n _

theorem State.hand_ticked (s : State) (f : Finding) (w : Submitter) : Ticked s (s.hand f w) :=
  { Ticked.refl s with frame := rfl, waiting := List.prefix_append _ _ }

theorem State.request_ticked (s : State) (k : CtlKind) (a : Addr) (len attempt : Nat) :
    Ticked s (s.request k a len attempt) where
  frame := rfl
  reads := List.prefix_append _ _
  sent := fun r hr sent => by
    rw [State.request_ctl, List.mem_append, List.mem_singleton] at hr
    rcases hr with old | rfl
    · exact old
    · exact absurd sent Bool.false_ne_true
  waiting := List.prefix_refl _

theorem State.fillCause_ticked (s : State) (n : LaneId) : Ticked s (s.fillCause n) := by
  unfold State.fillCause
  split
  · split
    · exact s.updLane_ticked n _
    · exact s.request_ticked _ _ _ _
  · exact .refl s

theorem State.pollTick_ticked (s : State) (n : LaneId) : Ticked s (s.pollTick n) := by
  rcases Nat.lt_or_ge 1 (s.lane n).pacing.poll with more | last
  · rw [State.pollTick_of_more more]
    exact s.updLane_ticked n _
  · rw [State.pollTick_of_last last]
    exact (s.updLane_ticked n _).trans (State.fillCause_ticked _ n)

theorem State.starveMs_ticked (s : State) (n : LaneId) : Ticked s (s.starveMs n) := by
  by_cases h : (s.lane n).starveMsMore.stalls = true
  · rw [State.starveMs_of_stalls h]
    exact (s.hand_ticked _ _).trans (State.setLane_ticked _ n _)
  · rw [State.starveMs_of_not_stalls h]
    exact s.updLane_ticked n _

theorem State.starveTick_ticked (s : State) (n : LaneId) : Ticked s (s.starveTick n) := by
  rcases Nat.lt_or_ge ((s.lane n).pacing.starveSub + 1) Config.ticksPerMs with within | whole
  · rw [State.starveTick_of_within within]
    exact s.updLane_ticked n _
  · rw [State.starveTick_of_whole whole]
    exact (s.updLane_ticked n _).trans (State.starveMs_ticked _ n)

/-! ### A tick at a lane -/

section laneTick

variable {s : State} {n : LaneId}

theorem State.laneTick_of_both (paces : s.paceRuns n = true) (starves : s.starveRuns n = true) :
    s.laneTick n = ((s.updLane n Lane.paceTick).pollTick n).starveTick n := by
  simp only [State.laneTick, if_pos paces, State.starveRuns_paceTick, if_pos starves]

theorem State.laneTick_of_paces (paces : s.paceRuns n = true) (starves : ¬ s.starveRuns n = true) :
    s.laneTick n = s.updLane n Lane.paceTick := by
  simp only [State.laneTick, if_pos paces, State.starveRuns_paceTick, if_neg starves]

theorem State.laneTick_of_starves (paces : ¬ s.paceRuns n = true) (starves : s.starveRuns n = true) :
    s.laneTick n = (s.pollTick n).starveTick n := by
  simp only [State.laneTick, if_neg paces, if_pos starves]

theorem State.laneTick_of_neither (paces : ¬ s.paceRuns n = true) (starves : ¬ s.starveRuns n = true) :
    s.laneTick n = s := by
  simp only [State.laneTick, if_neg paces, if_neg starves]

end laneTick

theorem State.laneTick_ticked (s : State) (n : LaneId) : Ticked s (s.laneTick n) := by
  by_cases paces : s.paceRuns n = true <;> by_cases starves : s.starveRuns n = true
  · rw [State.laneTick_of_both paces starves]
    exact (s.updLane_ticked n _).trans ((State.pollTick_ticked _ n).trans (State.starveTick_ticked _ n))
  · rw [State.laneTick_of_paces paces starves]
    exact s.updLane_ticked n _
  · rw [State.laneTick_of_starves paces starves]
    exact (s.pollTick_ticked n).trans (State.starveTick_ticked _ n)
  · rw [State.laneTick_of_neither paces starves]
    exact .refl s

/-! ### The time-outs -/

theorem mem_allCtxs (c : CtxId) : c ∈ allCtxs := by
  revert c
  decide

theorem State.overdue_iff (s : State) (sentAt : Nat) : s.overdue sentAt = true ↔ 50000 ≤ s.clock - sentAt :=
  decide_eq_true_iff

theorem State.mem_overdueReqs (s : State) (rs : List ReadReq) (f : Nat → Instr) (c : Instr) :
    c ∈ (s.overdueReqs rs).map f ↔ ∃ r ∈ rs, 50000 ≤ s.clock - r.sentAt ∧ c = f r.tag := by
  simp only [State.overdueReqs, List.map_map, List.mem_map, List.mem_filter, State.overdue_iff, Function.comp_apply,
    and_assoc, eq_comm (b := c)]

theorem State.mem_ctxOutstanding (s : State) (k : CtxId) (r : ReadReq) :
    r ∈ s.ctxOutstanding k ↔ ∃ f, s.ctx k = some f ∧ r ∈ f.stream.outstanding := by
  unfold State.ctxOutstanding
  cases s.ctx k with
  | none => exact ⟨fun h => absurd h List.not_mem_nil, nofun⟩
  | some f => exact ⟨fun h => ⟨f, rfl, h⟩, fun ⟨g, hg, h⟩ => Option.some.inj hg ▸ h⟩

/-- The failures that are due: of the control reads, of the requests of the contexts, and of the mend engine's. -/
theorem State.mem_timeouts (s : State) (c : Instr) :
    c ∈ s.timeouts ↔
      (∃ r ∈ s.ctl, r.sent = true ∧ 50000 ≤ s.clock - r.sentAt ∧ c = r.kind.failure r.tag) ∨
      (∃ (k : CtxId) (f : Fetch), s.ctx k = some f ∧ ∃ r ∈ f.stream.outstanding,
        50000 ≤ s.clock - r.sentAt ∧ c = .fetchRequestFail r.tag) ∨
      ∃ r ∈ s.mender.engine.outstanding, 50000 ≤ s.clock - r.sentAt ∧ c = .mendRequestFail r.tag := by
  have ctl : c ∈ ((s.ctl.filter fun r => r.sent && s.overdue r.sentAt).map fun r => r.kind.failure r.tag) ↔
      ∃ r ∈ s.ctl, r.sent = true ∧ 50000 ≤ s.clock - r.sentAt ∧ c = r.kind.failure r.tag := by
    simp only [List.mem_map, List.mem_filter, Bool.and_eq_true, State.overdue_iff, and_assoc, eq_comm (b := c)]
  have ctxs : (c ∈ allCtxs.flatMap fun k => (s.overdueReqs (s.ctxOutstanding k)).map .fetchRequestFail) ↔
      ∃ (k : CtxId) (f : Fetch), s.ctx k = some f ∧ ∃ r ∈ f.stream.outstanding,
        50000 ≤ s.clock - r.sentAt ∧ c = .fetchRequestFail r.tag := by
    simp only [List.mem_flatMap, mem_allCtxs, true_and, State.mem_overdueReqs, State.mem_ctxOutstanding]
    constructor
    · rintro ⟨k, r, ⟨f, hf, hr⟩, late, rfl⟩
      exact ⟨k, f, hf, r, hr, late, rfl⟩
    · rintro ⟨k, f, hf, r, hr, late, rfl⟩
      exact ⟨k, r, ⟨f, hf, hr⟩, late, rfl⟩
  rw [State.timeouts, List.mem_append, List.mem_append, ctl, ctxs, State.mem_overdueReqs, or_assoc]

/-- A tick makes no request overdue but those of before: a read that began to wait in it has not been sent. -/
theorem Ticked.mem_timeouts {s t : State} (h : Ticked s t) (c : Instr) : c ∈ t.timeouts ↔ c ∈ s.timeouts := by
  have clock : t.clock = s.clock := by rw [h.frame]
  have ctx : ∀ k, t.ctx k = s.ctx k := fun k => by rw [h.frame]; rfl
  have mender : t.mender = s.mender := by rw [h.frame]
  have ctl : (∃ r ∈ t.ctl, r.sent = true ∧ 50000 ≤ s.clock - r.sentAt ∧ c = r.kind.failure r.tag) ↔
      ∃ r ∈ s.ctl, r.sent = true ∧ 50000 ≤ s.clock - r.sentAt ∧ c = r.kind.failure r.tag :=
    ⟨fun ⟨r, hr, sent, due⟩ => ⟨r, h.sent r hr sent, sent, due⟩,
      fun ⟨r, hr, due⟩ => ⟨r, h.reads.subset hr, due⟩⟩
  simp only [State.mem_timeouts, clock, ctx, mender, ctl]

/-! ### The idle step -/

/-- The state in which the lanes tick: the tick has begun, and the clock has gone on. -/
def State.clocked (s : State) : State := { s with clock := s.clock + 1, now := s.now + 1 }

theorem step_idle {s t : State} (idle : s.pending = []) (lanes : allLanes.foldl State.laneTick s.clocked = t) :
    step s = .next { t with pending := t.timeouts } := by
  rw [step, idle, ← lanes]
  rfl

theorem State.lanesTick_ticked (s : State) : Ticked s (allLanes.foldl State.laneTick s) :=
  Ticked.foldl State.laneTick_ticked _ _

/-- Settles O3. The lanes tick one after another, each leaving alone what `Ticked` says; what is then overdue was sent before
the tick. At one lane each counter counts or meets its end. -/
theorem idleStepTicksPaceClock : Obligations.IdleStepTicksPaceClock := by
  refine ⟨fun s idle => ?tick, fun s n => ?counters⟩
  case tick =>
    obtain ⟨t, ht⟩ : ∃ t, allLanes.foldl State.laneTick s.clocked = t := ⟨_, rfl⟩
    have ticked : Ticked s.clocked t := ht ▸ s.clocked.lanesTick_ticked
    refine ⟨_, step_idle idle ht, ?lanes, ?frame, ticked.reads, ticked.waiting, fun c => ?queue⟩
    case lanes =>
      show _ = { allLanes.foldl State.laneTick s.clocked with pending := t.timeouts }
      rw [ht]
    case frame => exact congrArg (fun u : State => { u with pending := t.timeouts }) ticked.frame
    case queue => exact (ticked.mem_timeouts c).trans (s.clocked.mem_timeouts c)
  case counters =>
    dsimp only
    rw [← State.paceRuns_iff, ← State.starveRuns_iff]
    exact ⟨Lane.paceTick_of_pos, Lane.paceTick_of_zero,
      fun starves => ⟨fun paces => State.laneTick_of_paces paces starves,
        fun paces => State.laneTick_of_neither paces starves⟩,
      fun starves => ⟨fun paces => State.laneTick_of_both paces starves,
        fun paces => State.laneTick_of_starves paces starves⟩,
      State.pollTick_of_more, State.pollTick_of_last, State.starveTick_of_within, State.starveTick_of_whole⟩

end Sys2Proof.Machine
end
